-- ==== Sys2Proof/Word.lean ====
section
/-! DEFINITION. The number types of the block: bytes, segment and station numbers, sets of both, tags. -/
namespace Sys2Proof

/-- One byte on the trackline, the drive port or the option store (most significant bit first, data book "Bit order"). -/
abbrev Byte := BitVec 8

/-- A segment number 0–63 (R1). -/
abbrev Seg := Fin 64

/-- A 5-bit station field; stations are 1 to 30, 0 stands for "none" (data book "Terms"). -/
abbrev Station := Fin 32

/-- A set of segments laid out as the blocked map of R63: segment 0 is the most significant bit. -/
abbrev SegSet := BitVec 64

/-- A set of stations laid out as the station set of R63: station 0 is the most significant bit. -/
abbrev StationSet := BitVec 32

/-- A claim tag 0–15 (R24). -/
abbrev Tag := Fin 16

/-- A turnout position of the field lines; 0 is position 1 of R163. -/
abbrev Position := Fin 4

/-- The number of an end of a segment: 0, 1, 2 (R2). -/
abbrev EndNo := Fin 3

end Sys2Proof
end

