-- ==== Sys2Proof/Machine/Crc.lean ====
section
/-! DEFINITION. The one CRC-16 of the data book: generator x^16 + x^12 + x^5 + 1, initial value FFFFh, most significant
bit first, no final inversion. -/
namespace Sys2Proof.Machine

open Sys2Proof

/-- The bits of a field, most significant first. -/
def bitsOf {n : Nat} (v : BitVec n) : List Bool := (List.range n).map v.getMsbD

/-- One bit into the CRC register. -/
def crcStep (c : BitVec 16) (bit : Bool) : BitVec 16 :=
  if c.msb ^^ bit then (c <<< 1) ^^^ 0x1021#16 else c <<< 1

/-- The CRC-16 over a sequence of bits. -/
def crcBits (bits : List Bool) : BitVec 16 := bits.foldl crcStep 0xFFFF#16

/-- The bits of a sequence of bytes, each most significant bit first. -/
def byteBits (bytes : List Byte) : List Bool := bytes.flatMap bitsOf

/-- The CRC-16 over a sequence of bytes. -/
def crcBytes (bytes : List Byte) : BitVec 16 := crcBits (byteBits bytes)

end Sys2Proof.Machine
end

