-- ==== Sys2Proof/Config.lean ====
section
/-! DEFINITION. The numbers the data book fixes for every part. No value is left to an implementation, so there is no free constant here. -/
namespace Sys2Proof.Config

/-- R19: no table shows more than 12 segments HELD by one station. -/
def holdLimit : Nat := 12
/-- R24: a bundle has at most 6 entries. -/
def bundleMax : Nat := 6
/-- R76: a RELEASE or CLEAR frame carries at most 12 segments. -/
def listMax : Nat := 12
/-- R41: the idle gap, in recessive bit times. -/
def idleGap : Nat := 12
/-- R41: what the recessive count stands at after a stuff error on seven recessive bits. -/
def stuffRun : Nat := 7
/-- R48: the length of a break, in bit times. -/
def breakBits : Nat := 8
/-- R53: the tally slots of a frame. -/
def tallySlots : Nat := 30
/-- R58: the veto-run limit. -/
def vetoRunLimit : Nat := 8
/-- R59: the rejection limit. -/
def rejectionLimit : Nat := 16
/-- R104, R196: one unit of the beacon-period code, in ms. -/
def bpUnit : Nat := 50
/-- R85: the listen time, in beacon periods. -/
def listenBP : Nat := 7
/-- R85: the listen limit, in beacon periods. -/
def listenLimitBP : Nat := 21
/-- R94: the own lease, in beacon periods. -/
def ownLeaseBP : Nat := 4
/-- R98: a remote lease, in beacon periods. -/
def remoteLeaseBP : Nat := 6
/-- R119: the fixed part of the hold-off, in ms. -/
def holdOffBase : Nat := 20
/-- R119: the part of the hold-off for each unit of the station number, in ms. -/
def holdOffUnit : Nat := 2
/-- R119: the losses of one bundle that post STALLED. -/
def stalledAfter : Nat := 8
/-- R107: the most steps a route has. -/
def routeMax : Nat := 16
/-- R191: the most notices the queue holds. -/
def noticeMax : Nat := 16
/-- R191, R82, R148: where the byte-sized counts saturate. -/
def byteTop : Nat := 255
/-- Data book "Distances", R9, R148: where lengths and distances saturate. -/
def distanceTop : Nat := 16777215
/-- R145, R171, R196: one unit of the KEEP and stagger codes, in ms. -/
def codeUnit : Nat := 100
/-- R122, R196: one unit of the lie-wait and throw-time options, in ms. -/
def secondMs : Nat := 1000
/-- R164: how long after the option read the settle may last, in ms. -/
def settleLimit : Nat := 1000
/-- R195: the failure in a row that ends the read with NO_STORE. -/
def storeAttempts : Nat := 3
/-- R5, R171: the most turnouts a wayside owns. -/
def ownedMax : Nat := 4
/-- R142: the full duty of the speed cap, in sixteenths. -/
def fullDuty : Nat := 16

end Sys2Proof.Config
end

