-- ==== Sys2Proof/Syntax.lean ====
section
/-! DEFINITION. The commands and events of spec/opcode_table.json: one constructor of Instr for each row, with the data that reaches the part at that event. -/
namespace Sys2Proof

/-- A frame's fields before stuffing, without the start bit, in the order of R43. -/
structure Frame where
  urgency : BitVec 3
  sender : BitVec 5
  kind : BitVec 4
  length : BitVec 5
  fingerprint : BitVec 16
  digest : BitVec 16
  payload : List Byte
  crc : BitVec 16
deriving DecidableEq, Repr

/-- The two lies points are thrown to; also the name of a lock detector and of a required lie that is not NONE. -/
inductive Points where
  | normal
  | reverse
deriving DecidableEq, Repr

/-- The levels of the three inputs of one turnout position (R164). -/
structure Levels where
  normalLock : Bool
  reverseLock : Bool
  occupied : Bool
deriving DecidableEq, Repr

/-- The same levels at the settle limit; an absent level is an unsettled input (R164). -/
structure PartLevels where
  normalLock : Option Bool
  reverseLock : Option Bool
  occupied : Option Bool
deriving DecidableEq, Repr

/-- The rows of the table of operations and events. Drive-port parameters are the raw bytes clocked in (R180). -/
inductive Instr where
  /-- RESET (R194). -/
  | reset
  /-- RESET_RELEASE (R194). -/
  | resetRelease
  /-- STORE_RETRY_WAIT (R195). -/
  | storeRetryWait
  /-- CLOCK_STRETCH_TIMEOUT (R195). -/
  | clockStretchTimeout
  /-- OPTION_READ_END (R195): the bytes read from address 0, and the raw ODO level the first settling finds (R150). -/
  | optionReadEnd (store : List Byte) (odo : Bool)
  /-- DETECTOR_SETTLE_END (R164): the settled levels of positions 1 to 4. -/
  | detectorSettleEnd (p1 p2 p3 p4 : Levels)
  /-- SETTLE_TIMEOUT (R164): the levels of positions 1 to 4 as far as they have settled. -/
  | settleTimeout (p1 p2 p3 p4 : PartLevels)
  /-- LINE_IDLE (R41). -/
  | lineIdle
  /-- TRANSMIT_START (R76). -/
  | transmitStart
  /-- FRAME_START_RECEIVED (R42). -/
  | frameStartReceived
  /-- ARBITRATION_LOST (R46). -/
  | arbitrationLost
  /-- CLASH (R47): whether the frame has passed arbitration, which ends at the last sender bit (R46); it has, unless said otherwise. -/
  | clash (arbitrated : Bool := true)
  /-- STUFF_ERROR (R48): whether the run of seven was recessive. -/
  | stuffError (recessive : Bool)
  /-- BREAK_END (R49). -/
  | breakEnd
  /-- FRAME_CLASSIFY (R51): the frame as received; a sender classifies its own frame instead. -/
  | frameClassify (frame : Frame)
  /-- VETO_SLOT_END (R52): the level of the second bit of the veto slot. -/
  | vetoSlotEnd (dominant : Bool)
  /-- DRIVE_FAILURE (R55). -/
  | driveFailure
  /-- FRAME_REJECTED (R54): the stations whose slot read dominant. -/
  | frameRejected (slots : StationSet)
  /-- BEACON_TAKEN (R35); the taken rows carry the stations whose slot read dominant. -/
  | beaconTaken (slots : StationSet)
  /-- CLAIM_TAKEN (R24). -/
  | claimTaken (slots : StationSet)
  /-- RECLAIM_TAKEN (R25). -/
  | reclaimTaken (slots : StationSet)
  /-- RELEASE_TAKEN (R28). -/
  | releaseTaken (slots : StationSet)
  /-- LAPSE_TAKEN (R29). -/
  | lapseTaken (slots : StationSet)
  /-- CLEAR_TAKEN (R32). -/
  | clearTaken (slots : StationSet)
  /-- GUARD_TAKEN (R33). -/
  | guardTaken (slots : StationSet)
  /-- LIE_TAKEN (R34). -/
  | lieTaken (slots : StationSet)
  /-- LISTEN_TIMER_EXPIRY (R85). -/
  | listenTimerExpiry
  /-- LISTEN_LIMIT_EXPIRY (R90). -/
  | listenLimitExpiry
  /-- OWN_LEASE_EXPIRY (R94). -/
  | ownLeaseExpiry
  /-- REMOTE_LEASE_EXPIRY (R100) of one peer. -/
  | remoteLeaseExpiry (peer : Station)
  /-- BEACON_TIMER_EXPIRY (R104). -/
  | beaconTimerExpiry
  /-- HOLD_OFF_EXPIRY (R119). -/
  | holdOffExpiry
  /-- LIE_WAIT_EXPIRY (R122) of the step with this number. -/
  | lieWaitExpiry (step : Nat)
  /-- KEEP_TIMER_EXPIRY (R146). -/
  | keepTimerExpiry
  /-- SPD_PERIOD_START (R143). -/
  | spdPeriodStart
  /-- ODOMETER_COUNT (R151). -/
  | odometerCount
  /-- TAG_RECEIVED (R155): the start bit at its middle, the sixteen data bits, the stop bit. -/
  | tagReceived (start : Bool) (bits : BitVec 16) (stop : Bool)
  /-- LOCK_LEVEL_CHANGE (R166): the new filtered level of one lock detector. -/
  | lockLevelChange (position : Position) (lock : Points) (level : Bool)
  /-- THROW_TIMER_EXPIRY (R172). -/
  | throwTimerExpiry (position : Position)
  /-- OCCUPANCY_CHANGE (R176): the new filtered level. -/
  | occupancyChange (position : Position) (level : Bool)
  /-- STAGGER_EXPIRY (R171). -/
  | staggerExpiry
  /-- BUSY_TRANSACTION (R181). -/
  | busyTransaction
  /-- INVALID_COMMAND (R182): the bytes of a message that declares no command of the port. -/
  | invalidCommand (message : List Byte)
  /-- STATUS (R183). -/
  | status
  /-- NOTICE (R184). -/
  | notice
  /-- READ ENTRY (R185). -/
  | readEntry (segment : Byte)
  /-- READ PEER (R185). -/
  | readPeer (station : Byte)
  /-- The CLEAR command (R186). -/
  | clearCommand (segments : List Byte)
  /-- LOCATE (R187, R110, R111). -/
  | locate (head : Byte) (offset : BitVec 24) (tail : Option Byte)
  /-- LOAD ROUTE (R187, R113). -/
  | loadRoute (segments : List Byte)
  /-- CANCEL (R124). -/
  | cancel
  /-- TAKE (R134). -/
  | take (serial : Byte)
  /-- RESUME (R137). -/
  | resume
  /-- DOCKED (R139). -/
  | docked
  /-- KEEP (R145). -/
  | keep
  /-- POSSESS (R128). -/
  | possess (segments : List Byte)
  /-- UNPOSSESS (R130). -/
  | unpossess
  /-- THROW (R170): a segment and a required lie code. -/
  | throw (segment : Byte) (lie : Byte)
  /-- FILTERED_ODOMETER_FALL (R150). -/
  | filteredOdometerFall
deriving DecidableEq, Repr

end Sys2Proof
end

