-- ==== Sys2Proof/Machine/State.lean ====
section
/-! DEFINITION. The state of one TK60, block by block as the data book's block diagram cuts it, and its value at the
release of reset. Optional fields of the book (an absent field holds no value) are Options. -/
namespace Sys2Proof.Machine

open Sys2Proof

/-! ## Option store and track map (chapters 1 and 11) -/

/-- The role of a station, from the option store (R196). -/
inductive Role where
  | carriage
  | wayside
deriving DecidableEq, Repr

/-- The odometer filter option (R150, R196). -/
inductive OdoFilter where
  | short
  | long
deriving DecidableEq, Repr

/-- The installed options (R196). Fields of the other role are held as read; no block uses them. -/
structure Options where
  station : Station
  role : Role
  roster : StationSet
  quorum : Nat
  bitRate : Nat
  bpCode : Nat
  carriageLength : Nat
  claimAhead : Nat
  keepCode : Nat
  lieWait : Nat
  overrunMargin : Nat
  creepLimit : Nat
  t1 : Nat
  t2 : Nat
  t3 : Nat
  l0 : Nat
  l1 : Nat
  l2 : Nat
  odoFilter : OdoFilter
  staggerCode : Nat
  throwTime : Nat
deriving DecidableEq, Repr

/-- The end of another segment that an end is linked to (R2). -/
structure Link where
  seg : Seg
  endNo : EndNo
deriving DecidableEq, Repr

/-- A segment record (R1): the fields present depend on the kind. -/
inductive SegRec where
  | absent
  | plain (length : Nat) (end0 end1 : Option Link) (refuge : Bool)
  | pad (length : Nat) (end0 : Option Link)
  | turnout (length : Nat) (end0 end1 end2 : Option Link) (owner : Station)
deriving DecidableEq, Repr

/-- The installed map with what the OPR derives at installation: the fingerprint (R10) and the owned list (R5). -/
structure TrackMap where
  segs : Vector SegRec 64
  fingerprint : BitVec 16
  owned : List Seg
deriving DecidableEq, Repr

/-- The configuration faults (R200). -/
inductive ConfigFault where
  | noStore
  | badCrc
  | badFormat
  | badStation
  | badQuorum
  | badSpeed
  | badMap
  | badLengths
  | badOwner
deriving DecidableEq, Repr

/-- The option reader (R194, R195, R199, R200). -/
structure Opr where
  /-- The read of START is in progress. -/
  reading : Bool
  /-- Unacknowledged store addresses in a row (R195). -/
  failures : Nat
  /-- The configuration fault code (R200); absent reads 0. -/
  fault : Option ConfigFault
  options : Option Options
  map : Option TrackMap
deriving DecidableEq, Repr

/-! ## Claim table (chapter 2) -/

/-- What blocked a segment (R14). -/
inductive BlockCause where
  | lapse
  | guard
  | relistenLearned
deriving DecidableEq, Repr

/-- A reported lie, and the lie state of a turnout record (R14, R163). -/
inductive Lie where
  | unknown
  | normal
  | reverse
  | moving
  | failed
deriving DecidableEq, Repr

/-- The state of a claim entry with the fields present in it (R14). A required lie of NONE is an absent Points. -/
inductive Claim where
  | free
  | held (holder : Station) (required : Option Points)
  | blocked (cause : BlockCause)
deriving DecidableEq, Repr

/-- A claim entry (R14). The reported lie is present on defined turnouts. -/
structure Entry where
  claim : Claim
  reported : Option Lie
deriving DecidableEq, Repr

/-- The 64 claim entries in segment order (R14). -/
abbrev Table := Vector Entry 64

/-! ## Frames and the transmit queue (chapters 3 and 4) -/

/-- The eight frame kinds (R50). -/
inductive Kind where
  | beacon
  | claim
  | reclaim
  | release
  | lapse
  | clear
  | guard
  | lie
deriving DecidableEq, Repr

/-- The causes a LIE carries (R63). -/
inductive LieCause where
  | done
  | confirmed
  | moving
  | refusedOccupied
  | timeout
  | detectorConflict
  | lockLost
  | occupiedDuringThrow
  | report
deriving DecidableEq, Repr

/-- One segment of a bundle or of a holdings list, with its required lie (R24, R63). -/
structure BundleEntry where
  seg : Seg
  required : Option Points
deriving DecidableEq, Repr

/-- One lie entry of a beacon (R63). -/
structure LieEntry where
  seg : Seg
  lie : Lie
deriving DecidableEq, Repr

/-- The answer part of a throw or of a LIE: the claimant, and a tag or no tag (R163, R175). -/
structure Answer where
  claimant : Station
  tag : Option Tag
deriving DecidableEq, Repr

/-- The content of a payload (R63). The answer part of a LIE is as the frame carries it, tag byte included. -/
inductive Payload where
  | beacon (announce : Bool) (role : Role) (holdings : List BundleEntry) (blocked : SegSet) (lies : List LieEntry)
  | claim (tag : Tag) (bundle : List BundleEntry)
  | reclaim (tag : Tag) (bundle : List BundleEntry)
  | release (segs : List Seg)
  | lapse (stations : StationSet)
  | clear (segs : List Seg)
  | guard (segs : List Seg)
  | lie (seg : Seg) (lie : Lie) (cause : LieCause) (answer : Option (Station × Tag))
deriving DecidableEq, Repr

/-- What the law of the queue allows one entry of (R72): CLAIM and RECLAIM count as one kind there, a LIE is named by its turnout. -/
inductive EntryKey where
  | beacon
  | claim
  | release
  | lapse
  | clear
  | guard
  | lie (seg : Seg)
deriving DecidableEq, Repr

/-- The identity of an entry for the rejection count (R59, R81): its kind, one of the eight of R72, and for a LIE the turnout segment (log
entry 31). -/
structure SendId where
  kind : Kind
  turnout : Option Seg
deriving DecidableEq, Repr

/-- The argument set of an entry, by kind (R73). -/
inductive Args where
  | beacon
  | claim (reclaim : Bool) (bundle : List BundleEntry) (tag : Tag)
  | segs (segs : SegSet)
  | stations (stations : StationSet)
  | lie (cause : LieCause) (answer : Option Answer)
deriving DecidableEq, Repr

/-- What requests of the kind have added since the start bit, with the age taken at the first of them (R72). -/
structure Pending where
  args : Args
  age : Nat
deriving DecidableEq, Repr

/-- What an entry holds while it is in flight besides its sent items (R72). -/
structure Flight where
  pending : Option Pending
  withdrawn : Bool
deriving DecidableEq, Repr

/-- A transmit-queue entry (R72). While the entry is in flight its argument set is the sent items. -/
structure TxEntry where
  key : EntryKey
  args : Args
  age : Nat
  flight : Option Flight
deriving DecidableEq, Repr

/-- The transmit queue (R72): its entries and the next age. -/
structure Txq where
  entries : List TxEntry
  nextAge : Nat
deriving DecidableEq, Repr

/-- The phases of the line unit (R61). -/
inductive Phase where
  | off
  | seek
  | idle
  | send
  | receive
  | breaking
  | slots
deriving DecidableEq, Repr

/-- The class of a frame at the end of its CRC (R51). -/
inductive FrameClass where
  | good
  | foreign
  | faulty
deriving DecidableEq, Repr

/-- The frame this station sends, while it counts as the frame's sender (R60). -/
structure OwnFrame where
  identity : SendId
  payload : Payload
  frame : Frame
deriving DecidableEq, Repr

/-- A frame at the end of its CRC (R51). The content is present when every check but the fingerprint and digest passed. -/
structure Received where
  frame : Frame
  cls : FrameClass
  content : Option Payload
deriving DecidableEq, Repr

/-- The frame on the line, from its start bit to its verdict. -/
structure LineFrame where
  /-- In ANNOUNCE or ACTIVE from the start bit on (R39). -/
  participating : Bool
  own : Option OwnFrame
  received : Option Received
  /-- The reading of the veto slot (R52). -/
  veto : Option Bool
deriving DecidableEq, Repr

/-- The line unit (R41, R58, R59, R61). -/
structure Liu where
  phase : Phase
  /-- The count of consecutive recessive bit times, 0 to 12, where the phase was entered (R41). -/
  recessive : Nat
  /-- While breaking: the break answers a run of seven recessive bits (R49). -/
  breakOnRecessive : Bool
  line : Option LineFrame
  vetoRun : Nat
  rejections : Nat
  /-- The identity of the entry that the rejection count counts (R59). -/
  counted : Option SendId
deriving DecidableEq, Repr

/-! ## Membership (chapter 5) -/

/-- The station states (R82). -/
inductive StationState where
  | start
  | configFault
  | listen
  | announce
  | active
  | duplicateHalt
deriving DecidableEq, Repr

/-- The cause of the last change of station state (R82, R182). -/
inductive ChangeCause where
  | none
  | startDone
  | config
  | listenDone
  | listenLimit
  | announceTaken
  | ownLease
  | vetoRun
  | rejectionLimit
  | driveFailure
  | duplicate
deriving DecidableEq, Repr

/-- The presence of a peer (R98). -/
inductive Presence where
  | absent
  | present
  | lapsing
  | lapsed
deriving DecidableEq, Repr

/-- A peer record (R98). The lease is the time remaining in ms. -/
structure Peer where
  presence : Presence
  role : Option Role
  lease : Option Nat
  foreign : Bool
deriving DecidableEq, Repr

/-- The state kept in LISTEN (R85). Timers are the times remaining in ms. -/
structure Listen where
  timer : Option Nat
  limit : Nat
  served : Bool
  heard : Bool
  agreed : Bool
deriving DecidableEq, Repr

/-- The membership unit (R82, R85, R90, R91, R94, R98, R104). -/
structure Mbu where
  station : StationState
  cause : ChangeCause
  joinCount : Nat
  listen : Option Listen
  ownLease : Option Nat
  beacon : Option Nat
  /-- The records of stations 1 to 30, at their station numbers; numbers 0 and 31 are no stations. -/
  peers : Vector Peer 32
  lastConflict : Station
  /-- The foreign sighting held to the frame's verdict (R91). -/
  sighting : Option Station
deriving DecidableEq, Repr

/-! ## Route engine and motion outputs (chapters 6 and 7) -/

/-- A step record (R106). The required lie is present on turnout steps; the confirmed flag of any other step stays clear. -/
structure Step where
  num : Nat
  seg : Seg
  entryEnd : Option EndNo
  exitEnd : Option EndNo
  required : Option Points
  held : Bool
  formerly : Bool
  confirmed : Bool
  committed : Bool
  tag : Option Tag
  lieWait : Option Nat
deriving DecidableEq, Repr

/-- An occupancy hold (R108). -/
structure Hold where
  seg : Seg
  held : Bool
  formerly : Bool
deriving DecidableEq, Repr

/-- The route engine states (R109). -/
inductive RteState where
  | unplaced
  | placing
  | parked
  | routed
  | moving
  | halted
deriving DecidableEq, Repr

/-- The current offer (R133). -/
structure Offer where
  serial : Byte
  step : Nat
  distance : Nat
deriving DecidableEq, Repr

/-- The claim outstanding from the planner (R114), as requested, with the number of the bundle's first step (R119). -/
structure Outstanding where
  placement : Bool
  reclaim : Bool
  bundle : List BundleEntry
  tag : Tag
  first : Nat
  withdrawn : Bool
deriving DecidableEq, Repr

/-- The route engine (R106, R108, R109, R111, R114, R117, R132, R133). -/
structure Rte where
  state : RteState
  route : List Step
  /-- The occupancy holds while no route is loaded, tail first. -/
  holds : List Hold
  committedLimit : Option Nat
  serial : Byte
  offer : Option Offer
  tagCounter : Tag
  claim : Option Outstanding
  holdOff : Option Nat
  misses : Nat
  /-- The segment of the first step of the last lost bundle. -/
  lastLost : Option Seg
  /-- LOCATE was given in HALTED (R111). -/
  locatedHalted : Bool
deriving DecidableEq, Repr

/-- The stop causes, which are also the halt causes (R140, R136, R182). -/
inductive StopCause where
  | reset
  | lost
  | position
  | keep
  | relisten
  | duplicate
deriving DecidableEq, Repr

/-- The motion outputs (R140, R143, R145). The duties are in sixteenths of the period. -/
structure Mou where
  stop : Bool
  stopCause : StopCause
  current : Nat
  next : Nat
  keep : Option Nat
deriving DecidableEq, Repr

/-! ## Position tracker (chapter 8) -/

/-- The causes of a position fault (R160). -/
inductive FaultCause where
  | wrongTag
  | overrun
  | unexpectedTag
  | missingTag
  | creep
deriving DecidableEq, Repr

/-- An outstanding position fault: the cause and the two values after it (R160, R190). -/
structure PosFault where
  cause : FaultCause
  first : Nat
  second : Nat
deriving DecidableEq, Repr

/-- What the tracker holds while the carriage is placed (R148). R148's text gives the creep count 0 after power-up, its table has it present
only while the carriage is placed: the model holds none while the carriage is not placed (log entry 29). -/
structure Placement where
  head : Seg
  tail : Option Seg
  offset : Nat
  boundary : Option (Seg × Seg)
  creep : Nat
deriving DecidableEq, Repr

/-- The tag receiver (R148). Each table row is one whole step, so between steps no character is part received. -/
inductive TagReceiver where
  | idle
  | receiving (bits : List Bool)
deriving DecidableEq, Repr

/-- The position tracker (R148). -/
structure Pos where
  place : Option Placement
  fault : Option PosFault
  odometer : Bool
  receiver : TagReceiver
  badTags : Nat
deriving DecidableEq, Repr

/-! ## Turnout controller (chapter 9) -/

/-- One filtered input: its level, and whether the raw input has held a level for the settle time since reset (R164). -/
structure Input where
  level : Bool
  settled : Bool
deriving DecidableEq, Repr

/-- The filtered inputs of one turnout position (R163, R164). -/
structure Inputs where
  normalLock : Input
  reverseLock : Input
  occupancy : Input
deriving DecidableEq, Repr

/-- The motor output of a record (R163). -/
inductive Motor where
  | off
  | driveN
  | driveR
deriving DecidableEq, Repr

/-- A follow-on (R169). -/
structure FollowOn where
  target : Points
  answer : Answer
deriving DecidableEq, Repr

/-- A turnout record (R163); its three levels are the filtered inputs of its position. -/
structure Record where
  seg : Seg
  lie : Lie
  target : Option Points
  answer : Option Answer
  followOn : Option FollowOn
  throwTimer : Option Nat
  motor : Motor
deriving DecidableEq, Repr

/-- The turnout controller (R163, R164, R171, R128). -/
structure Toc where
  /-- One record for each segment of the owned list, in its order; the i-th belongs to position i. -/
  records : List Record
  /-- The motor start queue, oldest first: owned segments. -/
  queue : List Seg
  stagger : Option Nat
  inputs : Vector Inputs 4
  /-- The settle of START has ended (R164). -/
  settled : Bool
  /-- The time left to the settle limit of R164, running from the end of the option read. -/
  settleLimit : Option Nat
  /-- A possession claim is outstanding (R128). -/
  claiming : Bool
deriving DecidableEq, Repr

/-! ## Drive port (chapter 10) -/

/-- The outcomes that POSSESSION reports (R129, R182). -/
inductive PossessionEnd where
  | released
  | blocked
  | ended
deriving DecidableEq, Repr

/-- The loss causes (R26). -/
inductive LossCause where
  | held
  | blocked
  | holdLimit
deriving DecidableEq, Repr

/-- What a committed step lost (R135). -/
inductive Lost where
  | held
  | confirmed
deriving DecidableEq, Repr

/-- A notice record (R190). -/
inductive Notice where
  | link (state : StationState) (cause : ChangeCause)
  | peer (station : Station) (presence : Presence)
  | mapConflict (sender : Station)
  | joinRetry (count : Nat)
  | placedWon (head : Seg)
  | placedLost (head : Seg) (cause : LossCause)
  | offer (serial : Byte) (step distance : Nat)
  | stalled (step : Nat) (seg : Seg) (cause : LossCause)
  | lieLate (step : Nat) (seg : Seg) (reported : Lie)
  | lieRefused (seg : Seg) (lie : Lie) (cause : LieCause)
  | lost (step : Nat) (seg : Seg) (what : Lost)
  | halted (cause : StopCause) (headStep : Nat)
  | arriving (step : Nat) (seg : Seg)
  | position (fault : PosFault)
  | tagBad (count : Nat) (bits : BitVec 16)
  | keepLapsed (state : RteState)
  | possessionWon (count : Nat)
  | possessionLost (first : Seg) (cause : LossCause)
  | possessionOver (how : PossessionEnd) (count : Nat)
  | throwing (seg : Seg) (lie : Lie) (cause : LieCause)
  | occupancy (seg : Seg) (level : Bool) (guarded : Bool)
deriving DecidableEq, Repr

/-- The reply status (R182). -/
inductive Status where
  | done
  | busy
  | refused
  | invalid
  | stale
  | empty
  | role
deriving DecidableEq, Repr

/-- The refusal reasons (R182); the last eight are the route faults of R8. -/
inductive Reason where
  | notActive
  | wrongState
  | badPlace
  | tailPresent
  | keepStale
  | positionFault
  | notValid
  | notAtEnd
  | claimOutstanding
  | badSegment
  | repeated
  | notOwned
  | notPossessed
  | occupied
  | moving
  | routeSize
  | routeUndefined
  | routeRepeat
  | routeStart
  | routeFinal
  | routeGap
  | routeFork
  | routePassage
deriving DecidableEq, Repr

/-- A reply: status and data bytes; the length byte is the number of data bytes (R180). -/
structure Reply where
  status : Status
  data : List Byte
deriving DecidableEq, Repr

/-- The drive port (R180, R181, R190, R191). -/
structure Dpt where
  notices : List Notice
  overflow : Nat
  /-- The reply buffer. -/
  reply : Reply
  /-- The reply the last transaction shifted out on DDO. -/
  shifted : Option Reply
deriving DecidableEq, Repr

/-! ## The part -/

/-- The state of one TK60 and the queue of commands and events that wait to reach it, first in, first out. -/
structure State where
  /-- Reset is held (R194). -/
  inReset : Bool
  opr : Opr
  ctu : Table
  liu : Liu
  txq : Txq
  mbu : Mbu
  rte : Rte
  mou : Mou
  pos : Pos
  toc : Toc
  dpt : Dpt
  pending : List Instr
deriving DecidableEq, Repr

/-- No command or event stops the part: every one has an effect, or none, in every state. The type has no constructor. -/
inductive Fault where
deriving DecidableEq, Repr

/-- The reasons for having no meaning. -/
inductive Refusal where
  /-- Raised by exec alone, for a row whose meaning is not written yet; safe. No arm raises it. -/
  | notModelled (mnemonic : String)
deriving DecidableEq, Repr

/-- A peer record after reset and relisten (R98). -/
def Peer.reset : Peer := { presence := .absent, role := none, lease := none, foreign := false }

/-- An input whose filter has established no level yet; the level is a DESIGN CHOICE that no rule reads (log entry 6). -/
def Input.reset : Input := { level := false, settled := false }

/-- The inputs of one position after reset. -/
def Inputs.reset : Inputs := { normalLock := .reset, reverseLock := .reset, occupancy := .reset }

/-- The part at the release of reset (R194): START, the option read begun, every piece of state at its power-up value. -/
def State.reset : State :=
  { inReset := false
    opr := { reading := true, failures := 0, fault := none, options := none, map := none }
    ctu := Vector.replicate 64 { claim := .free, reported := none }
    liu := { phase := .off, recessive := 0, breakOnRecessive := false, line := none, vetoRun := 0, rejections := 0, counted := none }
    txq := { entries := [], nextAge := 0 }
    mbu := { station := .start, cause := .none, joinCount := 0, listen := none, ownLease := none, beacon := none,
             peers := Vector.replicate 32 .reset, lastConflict := 0, sighting := none }
    rte := { state := .unplaced, route := [], holds := [], committedLimit := none, serial := 0, offer := none,
             tagCounter := 0, claim := none, holdOff := none, misses := 0, lastLost := none, locatedHalted := false }
    mou := { stop := true, stopCause := .reset, current := 0, next := 0, keep := none }
    pos := { place := none, fault := none, odometer := false, receiver := .idle, badTags := 0 }
    toc := { records := [], queue := [], stagger := none, inputs := Vector.replicate 4 .reset, settled := false,
             settleLimit := none, claiming := false }
    dpt := { notices := [], overflow := 0, reply := { status := .empty, data := [] }, shifted := none }
    pending := [] }

/-! ## Replacing one block of the state -/

/-- The state with another inReset. -/
def State.setInReset (s : State) (x : Bool) : State := { s with inReset := x }

/-- The state with another opr. -/
def State.setOpr (s : State) (x : Opr) : State := { s with opr := x }

/-- The state with another ctu. -/
def State.setCtu (s : State) (x : Table) : State := { s with ctu := x }

/-- The state with another liu. -/
def State.setLiu (s : State) (x : Liu) : State := { s with liu := x }

/-- The state with another txq. -/
def State.setTxq (s : State) (x : Txq) : State := { s with txq := x }

/-- The state with another mbu. -/
def State.setMbu (s : State) (x : Mbu) : State := { s with mbu := x }

/-- The state with another rte. -/
def State.setRte (s : State) (x : Rte) : State := { s with rte := x }

/-- The state with another mou. -/
def State.setMou (s : State) (x : Mou) : State := { s with mou := x }

/-- The state with another pos. -/
def State.setPos (s : State) (x : Pos) : State := { s with pos := x }

/-- The state with another toc. -/
def State.setToc (s : State) (x : Toc) : State := { s with toc := x }

/-- The state with another dpt. -/
def State.setDpt (s : State) (x : Dpt) : State := { s with dpt := x }

/-- The state with another pending. -/
def State.setPending (s : State) (x : List Instr) : State := { s with pending := x }

end Sys2Proof.Machine
end

