-- ==== Sys2Proof/Machine/Sets.lean ====
section
/-! DEFINITION. Tables over a finite index and sets of segments and stations as bit fields (R63). -/
namespace Sys2Proof.Machine

open Sys2Proof

/-- The table whose entry at i is f i. -/
def tab {n : Nat} {α : Type} (f : Fin n → α) : Vector α n := ⟨⟨(List.finRange n).map f⟩, by simp⟩

/-- Segment numbers in ascending order. -/
def allSegs : List Seg := List.finRange 64

/-- The station numbers 1 to 30 in ascending order. -/
def allStations : List Station := (List.finRange 32).filter fun k => 1 ≤ k.val && k.val ≤ 30

/-- Membership of a segment in a set: its bit of the blocked map (R63). -/
def segHas (set : SegSet) (seg : Seg) : Bool := set.getMsbD seg.val

/-- The set of one segment. -/
def segOne (seg : Seg) : SegSet := 1#64 <<< (63 - seg.val)

/-- The set of the segments of a list. -/
def segSetOf (segs : List Seg) : SegSet := segs.foldr (fun seg set => segOne seg ||| set) 0#64

/-- The members of a set in ascending order. -/
def segList (set : SegSet) : List Seg := allSegs.filter (segHas set)

/-- Membership of a station in a set: its bit of the station set (R63). -/
def stationHas (set : StationSet) (station : Station) : Bool := set.getMsbD station.val

/-- The set of one station. -/
def stationOne (station : Station) : StationSet := 1#32 <<< (31 - station.val)

/-- The stations 1 to 30 of a set in ascending order. -/
def stationList (set : StationSet) : List Station := allStations.filter (stationHas set)

/-- The number of stations 1 to 30 in a set. -/
def stationCount (set : StationSet) : Nat := (stationList set).length

/-- Replace the table entry at one index. -/
def tabSet {n : Nat} {α : Type} (t : Vector α n) (i : Fin n) (a : α) : Vector α n :=
  tab fun j => if j = i then a else t[j]

/-- Segments strictly ascending: no segment twice (R66, R68, R70). -/
def ascending : List Seg → Bool
  | a :: b :: rest => decide (a < b) && ascending (b :: rest)
  | _ => true

/-- No member twice. -/
def distinct {α : Type} [DecidableEq α] : List α → Bool
  | [] => true
  | a :: rest => decide (a ∉ rest) && distinct rest

/-- A count that stops at a top value. -/
def saturate (top n : Nat) : Nat := min n top

end Sys2Proof.Machine
end

