-- ==== Sys2Proof/Machine/Map.lean ====
section
/-! DEFINITION. The track map (chapter 1): kinds, ends, links, refuges, passages, route legality and resolution, distances. -/
namespace Sys2Proof.Machine

open Sys2Proof

/-- R1: a segment is defined when its record is of a kind other than ABSENT. -/
def SegRec.defined : SegRec → Bool
  | .absent => false
  | .plain _ _ _ _ | .pad _ _ | .turnout _ _ _ _ _ => true

/-- R1, R3: the length of a segment, in counts. -/
def SegRec.length : SegRec → Nat
  | .absent => 0
  | .plain len _ _ _ | .pad len _ | .turnout len _ _ _ _ => len

/-- R2: what an end is linked to; an end the kind does not have is linked to nothing. -/
def SegRec.link (r : SegRec) (e : EndNo) : Option Link :=
  match r, e with
  | .plain _ l _ _, 0 => l
  | .plain _ _ l _, 1 => l
  | .pad _ l, 0 => l
  | .turnout _ l _ _ _, 0 => l
  | .turnout _ _ l _ _, 1 => l
  | .turnout _ _ _ l _, 2 => l
  | _, _ => none

/-- R4: a PAD, or a PLAIN segment with its refuge flag set. -/
def SegRec.isRefuge : SegRec → Bool
  | .pad _ _ => true
  | .plain _ _ _ refuge => refuge
  | .absent | .turnout _ _ _ _ _ => false

/-- R1: the segment is a TURNOUT. -/
def SegRec.isTurnout : SegRec → Bool
  | .turnout _ _ _ _ _ => true
  | .absent | .plain _ _ _ _ | .pad _ _ => false

/-- R5: the owner of a TURNOUT. -/
def SegRec.owner : SegRec → Option Station
  | .turnout _ _ _ _ owner => some owner
  | .absent | .plain _ _ _ _ | .pad _ _ => none

/-- R8 checks 4 and 5: where a route may begin or end. -/
def SegRec.isStanding : SegRec → Bool
  | .plain _ _ _ _ | .pad _ _ => true
  | .absent | .turnout _ _ _ _ _ => false

/-- R1: the record of a segment; with no installed map every segment is undefined. -/
def mapRec (map : Option TrackMap) (seg : Seg) : SegRec :=
  match map with
  | some m => m.segs[seg]
  | none => .absent

/-- R10: the fingerprint, 0000h with no installed map. -/
def mapFingerprint (map : Option TrackMap) : BitVec 16 :=
  match map with
  | some m => m.fingerprint
  | none => 0

/-- R5: the owned list, empty with no installed map. -/
def mapOwned (map : Option TrackMap) : List Seg :=
  match map with
  | some m => m.owned
  | none => []

/-- R6: the lie of a passage from one end to another, none where the passage is illegal. A lie of NONE is some none. -/
def passageLie (r : SegRec) (entryEnd exitEnd : EndNo) : Option (Option Points) :=
  match r, entryEnd, exitEnd with
  | .plain _ _ _ _, 0, 1 | .plain _ _ _ _, 1, 0 => some none
  | .turnout _ _ _ _ _, 0, 1 | .turnout _ _ _ _ _, 1, 0 => some (some .normal)
  | .turnout _ _ _ _ _, 0, 2 | .turnout _ _ _ _ _, 2, 0 => some (some .reverse)
  | _, _, _ => none

/-- R7 step 2: the boundaries at which a meets b, as pairs of an end of a and the end of b it is linked to. -/
def meetings (map : Option TrackMap) (a b : Seg) : List (EndNo × EndNo) :=
  (List.finRange 3).filterMap fun e =>
    match (mapRec map a).link e with
    | some l => if l.seg = b then some (e, l.endNo) else none
    | none => none

/-- R8 checks 6 and 7, pair by pair: the boundary of each consecutive pair, or the first pair's fault. -/
def boundaries (map : Option TrackMap) : List Seg → Except Reason (List (EndNo × EndNo))
  | a :: b :: rest =>
    match meetings map a b with
    | [] => .error .routeGap
    | [p] => (boundaries map (b :: rest)).map (p :: ·)
    | _ :: _ :: _ => .error .routeFork
  | _ => .ok []

/-- R7: the required lie of a step on a TURNOUT with both ends; no other step has one. -/
def requiredLie (r : SegRec) (entryEnd exitEnd : Option EndNo) : Option Points :=
  match entryEnd, exitEnd with
  | some a, some b => (passageLie r a b).join
  | _, _ => none

/-- R7: a step record as resolution makes it. -/
def freshStep (map : Option TrackMap) (num : Nat) (seg : Seg) (entryEnd exitEnd : Option EndNo) : Step :=
  { num := num, seg := seg, entryEnd := entryEnd, exitEnd := exitEnd
    required := requiredLie (mapRec map seg) entryEnd exitEnd
    held := false, formerly := false, confirmed := false, committed := false, tag := none, lieWait := none }

/-- R7 steps 1 to 5: the step records of a list whose boundaries are known. -/
def resolveSteps (map : Option TrackMap) : Nat → Option EndNo → List Seg → List (EndNo × EndNo) → List Step
  | _, _, [], _ => []
  | num, entryEnd, seg :: rest, p :: ps =>
    freshStep map num seg entryEnd (some p.1) :: resolveSteps map (num + 1) (some p.2) rest ps
  | num, entryEnd, seg :: rest, [] =>
    freshStep map num seg entryEnd none :: resolveSteps map (num + 1) none rest []

/-- R8 check 8: a step with both ends passes legally. -/
def stepLegal (map : Option TrackMap) (st : Step) : Bool :=
  match st.entryEnd, st.exitEnd with
  | some a, some b => (passageLie (mapRec map st.seg) a b).isSome
  | _, _ => true

/-- R7, R8: the checks in the order of the table, and the resolved steps of a legal route. -/
def resolveRoute (map : Option TrackMap) (head : Option Seg) (segs : List Seg) : Except Reason (List Step) :=
  if segs.length < 2 || Config.routeMax < segs.length then .error .routeSize
  else if !segs.all (fun s => (mapRec map s).defined) then .error .routeUndefined
  else if !distinct segs then .error .routeRepeat
  else if segs.head? ≠ head || !(segs.head?.any fun s => (mapRec map s).isStanding) then .error .routeStart
  else if !(segs.getLast?.any fun s => (mapRec map s).isStanding) then .error .routeFinal
  else
    match boundaries map segs with
    | .error r => .error r
    | .ok ps =>
      if (resolveSteps map 0 none segs ps).all (stepLegal map) then .ok (resolveSteps map 0 none segs ps)
      else .error .routePassage

/-- R9: the remaining length of the head segment. -/
def remainingLength (map : Option TrackMap) (place : Placement) : Nat :=
  (mapRec map place.head).length - place.offset

/-- R9: the distance from the head to the end of step k of a route, k at or beyond the head step. -/
def distanceTo (map : Option TrackMap) (place : Placement) (route : List Step) (headNum k : Nat) : Nat :=
  saturate Config.distanceTop
    (remainingLength map place +
      ((route.filter fun st => decide (headNum < st.num) && decide (st.num ≤ k)).map
        fun st => (mapRec map st.seg).length).sum)

end Sys2Proof.Machine
end

