-- ==== Sys2Proof/Machine/Flags.lean ====
section
/-! DEFINITION. What the blocks compute from the state: the claim table's digest, hold counts and answers (R17 to R20), the
options in force, the head step, the validity of steps, the authority limit (R131) and the speed-cap duty (R142). -/
namespace Sys2Proof.Machine

open Sys2Proof

/-! ## Options and station state -/

/-- The installed role; none before installation and in CONFIG_FAULT. -/
def State.role (s : State) : Option Role := s.opr.options.map (·.role)

/-- This station's number, 0 with no options installed. -/
def State.me (s : State) : Station :=
  match s.opr.options with
  | some o => o.station
  | none => 0

/-- The roster, empty with no options installed. -/
def State.roster (s : State) : StationSet :=
  match s.opr.options with
  | some o => o.roster
  | none => 0

/-- A numeric option, 0 with no options installed. -/
def State.option (s : State) (f : Options → Nat) : Nat :=
  match s.opr.options with
  | some o => f o
  | none => 0

/-- The beacon period in ms (R104). -/
def State.bp (s : State) : Nat := Config.bpUnit * s.option (·.bpCode)

/-- The station is a CARRIAGE. -/
def State.isCarriage (s : State) : Bool := s.role == some .carriage

/-- The station is a WAYSIDE. -/
def State.isWayside (s : State) : Bool := s.role == some .wayside

/-- R39: the states in which a station takes part in frames. -/
def State.online (s : State) : Bool := s.mbu.station == .announce || s.mbu.station == .active

/-- The station is ACTIVE. -/
def State.isActive (s : State) : Bool := s.mbu.station == .active

/-- The record of a segment in the installed map. -/
def State.seg (s : State) (seg : Seg) : SegRec := mapRec s.opr.map seg

/-- The owned list (R5). -/
def State.owned (s : State) : List Seg := mapOwned s.opr.map

/-! ## The claim table -/

/-- The holder of an entry (R14). -/
def Entry.holder (e : Entry) : Option Station :=
  match e.claim with
  | .held h _ => some h
  | .free | .blocked _ => none

/-- The entry is HELD by a station. -/
def Entry.heldBy (e : Entry) (k : Station) : Bool := e.holder == some k

/-- The entry is FREE. -/
def Entry.isFree (e : Entry) : Bool := e.claim == .free

/-- The entry is BLOCKED. -/
def Entry.isBlocked (e : Entry) : Bool :=
  match e.claim with
  | .blocked _ => true
  | .free | .held _ _ => false

/-- The entry is HELD. -/
def Entry.isHeld (e : Entry) : Bool := e.holder.isSome

/-- The required lie of a HELD entry (R14). -/
def Entry.required (e : Entry) : Option Points :=
  match e.claim with
  | .held _ r => r
  | .free | .blocked _ => none

/-- R17: the digest byte of an entry. -/
def Entry.digestByte (e : Entry) : Byte :=
  match e.claim with
  | .free => 0
  | .held h _ => BitVec.ofNat 8 (32 + h.val)
  | .blocked _ => 64

/-- R17, R18: the digest of a table. -/
def digest (t : Table) : BitVec 16 := crcBytes (allSegs.map fun i => t[i].digestByte)

/-- R19: the hold count of a station. -/
def holdCount (t : Table) (k : Station) : Nat := (allSegs.filter fun i => t[i].heldBy k).length

/-- R20: the segments HELD by a station, ascending, each with its required lie. -/
def holdings (t : Table) (k : Station) : List BundleEntry :=
  (allSegs.filter fun i => t[i].heldBy k).map fun i => { seg := i, required := t[i].required }

/-- R20: the set of BLOCKED segments. -/
def blockedSet (t : Table) : SegSet := segSetOf (allSegs.filter fun i => t[i].isBlocked)

/-- R16: the cleared table: every entry FREE, the reported lie UNKNOWN on every defined TURNOUT. -/
def clearTable (map : Option TrackMap) : Table :=
  tab fun i => { claim := .free, reported := if (mapRec map i).isTurnout then some .unknown else none }

/-! ## Steps and authority -/

/-- The lie of points that lie to one side. -/
def pointsLie : Points → Lie
  | .normal => .normal
  | .reverse => .reverse

/-- The other lie. -/
def pointsOther : Points → Points
  | .normal => .reverse
  | .reverse => .normal

/-- R131: a step is valid when held and, on a turnout step, confirmed. -/
def Step.valid (st : Step) : Bool := st.held && (st.required.isNone || st.confirmed)

/-- R108: the carriage's head segment. -/
def State.head (s : State) : Option Seg := s.pos.place.map (·.head)

/-- R108: the carriage's tail segment. -/
def State.tail (s : State) : Option Seg := s.pos.place.bind (·.tail)

/-- R108: the step on a segment. -/
def stepOn (route : List Step) (seg : Option Seg) : Option Step := route.find? fun st => some st.seg == seg

/-- R108: the head step. -/
def State.headStep (s : State) : Option Step := stepOn s.rte.route s.head

/-- The head step's number. -/
def State.headNum (s : State) : Option Nat := s.headStep.map (·.num)

/-- R108, R115: a segment under the carriage. -/
def State.isOccupied (s : State) (seg : Seg) : Bool := s.head == some seg || s.tail == some seg

/-- The last step number of the unbroken valid steps from the head step on (R131). -/
def validLimit (route : List Step) (headNum : Nat) : Option Nat :=
  (((route.filter fun st => decide (headNum ≤ st.num)).takeWhile Step.valid).getLast?).map (·.num)

/-- R131: the engine states in which an authority limit can be present. -/
def RteState.hasAuthority : RteState → Bool
  | .routed | .moving | .halted => true
  | .unplaced | .placing | .parked => false

/-- R131: the authority limit. -/
def State.authority (s : State) : Option Nat :=
  if s.isActive && s.rte.state.hasAuthority then s.headNum.bind (validLimit s.rte.route) else none

/-- R9: the distance to the end of a step. -/
def State.distance (s : State) (k : Nat) : Nat :=
  match s.pos.place, s.headNum with
  | some place, some h => distanceTo s.opr.map place s.rte.route h k
  | _, _ => 0

/-- R142: the duty for a distance. -/
def dutyOf (o : Options) (d : Nat) : Nat :=
  if d = 0 then 0
  else if d < o.t1 then o.l0
  else if d < o.t2 then o.l1
  else if d < o.t3 then o.l2
  else Config.fullDuty

/-- R142: the duty the motion outputs choose. -/
def State.duty (s : State) : Nat :=
  if s.mou.stop || s.rte.state != .moving then 0
  else
    match s.opr.options, s.rte.committedLimit with
    | some o, some k => dutyOf o (s.distance k)
    | _, _ => 0

/-- R132: something is committed beyond the head. -/
def State.committedBeyond (s : State) : Bool :=
  match s.headNum, s.rte.committedLimit with
  | some h, some k => decide (h < k)
  | _, _ => false

/-- R137: every committed step is valid. -/
def committedValid (route : List Step) : Bool := route.all fun st => !st.committed || st.valid

/-! ## Outputs -/

/-- R192: NTC is high while the notice queue holds a record. -/
def State.ntc (s : State) : Bool := !s.dpt.notices.isEmpty

/-- R52: this station drives the veto slot of the frame on the line. -/
def LineFrame.vetoes (l : LineFrame) : Bool :=
  l.participating && l.own.isNone &&
    match l.received with
    | some r => r.cls != .good
    | none => false

/-- R53: this station drives its tally slot, the veto having read recessive. -/
def LineFrame.tallies (l : LineFrame) : Bool :=
  l.participating && l.veto == some false &&
    match l.received with
    | some r => r.cls == .good
    | none => false

/-- R163: the normal-drive line of a motor output. -/
def Motor.normalLine : Motor → Bool
  | .driveN => true
  | .off | .driveR => false

/-- R163: the reverse-drive line of a motor output. -/
def Motor.reverseLine : Motor → Bool
  | .driveR => true
  | .off | .driveN => false

end Sys2Proof.Machine
end

