-- ==== Sys2Proof/Machine/Operands.lean ====
section
/-! DEFINITION. The encodings a bus partner and the host see: payload layouts (R63), payload checks (R64 to R71), frame
bits, stuffing and CRC (R43 to R45), frame checks (R50, R51), and the codes and data of replies and notices (R180 to R190). -/
namespace Sys2Proof.Machine

open Sys2Proof

/-! ## Small codes -/

/-- R63, R182: the required lie code. -/
def requiredCode : Option Points → Nat
  | none => 0
  | some .normal => 1
  | some .reverse => 2

/-- R63: the required lie of a code; code 3 fails. -/
def requiredOf (code : Nat) : Option (Option Points) :=
  match code with
  | 0 => some none
  | 1 => some (some .normal)
  | 2 => some (some .reverse)
  | _ => none

/-- R63: the reported lie code. -/
def lieCode : Lie → Nat
  | .unknown => 0
  | .normal => 1
  | .reverse => 2
  | .moving => 3
  | .failed => 4

/-- R63: the lie of a code; codes 5 to 7 fail. -/
def lieOf (code : Nat) : Option Lie :=
  match code with
  | 0 => some .unknown
  | 1 => some .normal
  | 2 => some .reverse
  | 3 => some .moving
  | 4 => some .failed
  | _ => none

/-- R63: the cause code. -/
def causeCode : LieCause → Nat
  | .done => 0
  | .confirmed => 1
  | .moving => 2
  | .refusedOccupied => 3
  | .timeout => 4
  | .detectorConflict => 5
  | .lockLost => 6
  | .occupiedDuringThrow => 7
  | .report => 8

/-- R63: the cause of a code; codes 9 to 15 fail. -/
def causeOf (code : Nat) : Option LieCause :=
  match code with
  | 0 => some .done
  | 1 => some .confirmed
  | 2 => some .moving
  | 3 => some .refusedOccupied
  | 4 => some .timeout
  | 5 => some .detectorConflict
  | 6 => some .lockLost
  | 7 => some .occupiedDuringThrow
  | 8 => some .report
  | _ => none

/-- R50: the kind code. -/
def Kind.code : Kind → Nat
  | .beacon => 0
  | .claim => 1
  | .reclaim => 2
  | .release => 3
  | .lapse => 4
  | .clear => 5
  | .guard => 6
  | .lie => 7

/-- R50: the kind of a code; codes 8 to 15 are undefined. -/
def kindOf (code : Nat) : Option Kind :=
  match code with
  | 0 => some .beacon
  | 1 => some .claim
  | 2 => some .reclaim
  | 3 => some .release
  | 4 => some .lapse
  | 5 => some .clear
  | 6 => some .guard
  | 7 => some .lie
  | _ => none

/-- R50: the urgency tied to a kind. -/
def Kind.urgency : Kind → Nat
  | .beacon => 5
  | .claim => 4
  | .reclaim => 4
  | .release => 3
  | .lapse => 2
  | .clear => 3
  | .guard => 2
  | .lie => 1

/-- The kind of a payload. -/
def Payload.kind : Payload → Kind
  | .beacon _ _ _ _ _ => .beacon
  | .claim _ _ => .claim
  | .reclaim _ _ => .reclaim
  | .release _ => .release
  | .lapse _ => .lapse
  | .clear _ => .clear
  | .guard _ => .guard
  | .lie _ _ _ _ => .lie

/-! ## Payload bytes (R63) -/

/-- A number as one byte. -/
def byteOf (n : Nat) : Byte := BitVec.ofNat 8 n

/-- The segment byte. -/
def segByte (seg : Seg) : Byte := byteOf seg.val

/-- The segment of a segment byte; bits 7 and 6 are zero. -/
def segOfByte (b : Byte) : Option Seg := if h : b.toNat < 64 then some ⟨b.toNat, h⟩ else none

/-- The claim byte. -/
def claimByte (e : BundleEntry) : Byte := byteOf (4 * e.seg.val + requiredCode e.required)

/-- The bundle entry of a claim byte. -/
def bundleOfByte (b : Byte) : Option BundleEntry :=
  (requiredOf (b.toNat % 4)).map fun r => { seg := Fin.ofNat 64 (b.toNat / 4), required := r }

/-- The two bytes of a beacon's lie entry. -/
def lieBytes (e : LieEntry) : List Byte := [segByte e.seg, byteOf (lieCode e.lie)]

/-- The lie entries of a beacon. -/
def lieEntriesOf : List Byte → Option (List LieEntry)
  | [] => some []
  | [_] => none
  | a :: b :: rest =>
    match segOfByte a, lieOf b.toNat, lieEntriesOf rest with
    | some seg, some lie, some es => some ({ seg := seg, lie := lie } :: es)
    | _, _, _ => none

/-- The four bytes of a station set. -/
def stationSetBytes (v : StationSet) : List Byte :=
  [v.extractLsb' 24 8, v.extractLsb' 16 8, v.extractLsb' 8 8, v.extractLsb' 0 8]

/-- The eight bytes of a blocked map. -/
def segSetBytes (v : SegSet) : List Byte :=
  [v.extractLsb' 56 8, v.extractLsb' 48 8, v.extractLsb' 40 8, v.extractLsb' 32 8,
   v.extractLsb' 24 8, v.extractLsb' 16 8, v.extractLsb' 8 8, v.extractLsb' 0 8]

/-- Every element as an Option, all or none. -/
def traverse {α β : Type} (f : α → Option β) : List α → Option (List β)
  | [] => some []
  | a :: rest =>
    match f a, traverse f rest with
    | some b, some bs => some (b :: bs)
    | _, _ => none

/-- The flags byte of a beacon: bit 7 announce, bit 6 role. -/
def beaconFlags (announce : Bool) (role : Role) : Byte :=
  byteOf ((if announce then 128 else 0) + match role with
    | .carriage => 0
    | .wayside => 64)

/-- The role in the flags byte of a beacon. -/
def beaconRole (flags : Byte) : Role := if flags.getMsbD 1 then .wayside else .carriage

/-- The payload bytes of a content. -/
def payloadBytes : Payload → List Byte
  | .beacon announce role held blocked lies =>
    [beaconFlags announce role, byteOf held.length] ++ held.map claimByte ++ segSetBytes blocked ++
      [byteOf lies.length] ++ lies.flatMap lieBytes
  | .claim tag bundle | .reclaim tag bundle => byteOf (16 * tag.val + bundle.length) :: bundle.map claimByte
  | .release segs | .clear segs | .guard segs => byteOf segs.length :: segs.map segByte
  | .lapse stations => stationSetBytes stations
  | .lie seg lie cause answer =>
    [segByte seg, byteOf (16 * lieCode lie + causeCode cause)] ++
      match answer with
      | none => []
      | some (claimant, tag) => [byteOf claimant.val, byteOf tag.val]

/-- What follows the holdings of a beacon: the blocked map, the lie count and the lie entries (R63, R64). -/
def beaconTail : List Byte → Option (SegSet × List LieEntry)
  | b0 :: b1 :: b2 :: b3 :: b4 :: b5 :: b6 :: b7 :: m :: rest =>
    if m.toNat ≤ 4 ∧ rest.length = 2 * m.toNat then
      (lieEntriesOf rest).map fun lies => (b0 ++ b1 ++ b2 ++ b3 ++ b4 ++ b5 ++ b6 ++ b7, lies)
    else none
  | _ => none

/-- A BEACON payload, by R63, R64 and R65 (1, 3, 4). -/
def beaconOf : List Byte → Option Payload
  | flags :: n :: rest =>
    if flags.toNat % 64 = 0 ∧ n.toNat ≤ 12 then
      match traverse bundleOfByte (rest.take n.toNat), beaconTail (rest.drop n.toNat) with
      | some held, some (blocked, lies) =>
        if held.length = n.toNat then
          some (.beacon flags.msb (beaconRole flags) held blocked lies)
        else none
      | _, _ => none
    else none
  | _ => none

/-- The tag and bundle of a CLAIM or RECLAIM payload. -/
def bundleOf : List Byte → Option (Tag × List BundleEntry)
  | h :: rest =>
    if 1 ≤ h.toNat % 16 ∧ h.toNat % 16 ≤ Config.bundleMax ∧ rest.length = h.toNat % 16 then
      (traverse bundleOfByte rest).map fun bundle => (Fin.ofNat 16 (h.toNat / 16), bundle)
    else none
  | [] => none

/-- The segments of a RELEASE, CLEAR or GUARD payload with at most max of them. -/
def segmentsOf (max : Nat) : List Byte → Option (List Seg)
  | c :: rest => if 1 ≤ c.toNat ∧ c.toNat ≤ max ∧ rest.length = c.toNat then traverse segOfByte rest else none
  | [] => none

/-- The segment, lie and cause of the first two bytes of a LIE. -/
def lieHeadOf (a b : Byte) : Option (Seg × Lie × LieCause) :=
  match segOfByte a, lieOf (b.toNat / 16), causeOf (b.toNat % 16) with
  | some seg, some lie, some cause => some (seg, lie, cause)
  | _, _, _ => none

/-- A LIE payload, of two bytes or four. -/
def liePayloadOf : List Byte → Option Payload
  | [a, b] => (lieHeadOf a b).map fun h => .lie h.1 h.2.1 h.2.2 none
  | [a, b, c, d] =>
    if c.toNat < 32 ∧ d.toNat < 16 then
      (lieHeadOf a b).map fun h => .lie h.1 h.2.1 h.2.2 (some (Fin.ofNat 32 c.toNat, Fin.ofNat 16 d.toNat))
    else none
  | _ => none

/-- The content of a payload of a kind, none where R64 or R65 (1, 3, 4) fails. -/
def payloadOf (kind : Kind) (bytes : List Byte) : Option Payload :=
  match kind with
  | .beacon => beaconOf bytes
  | .claim => (bundleOf bytes).map fun p => .claim p.1 p.2
  | .reclaim => (bundleOf bytes).map fun p => .reclaim p.1 p.2
  | .release => (segmentsOf Config.listMax bytes).map .release
  | .clear => (segmentsOf Config.listMax bytes).map .clear
  | .guard => (segmentsOf Config.ownedMax bytes).map .guard
  | .lapse =>
    match bytes with
    | [b0, b1, b2, b3] => some (.lapse (b0 ++ b1 ++ b2 ++ b3))
    | _ => none
  | .lie => liePayloadOf bytes

/-! ## Payload checks against the map and roster (R65 to R71) -/

/-- R65 (2, 5): a bundle entry or holding names a defined segment, and a TURNOUT when it gives a lie. -/
def bundleEntryGood (map : Option TrackMap) (e : BundleEntry) : Bool :=
  (mapRec map e.seg).defined && (e.required.isNone || (mapRec map e.seg).isTurnout)

/-- R65 (6): a station 1 to 30 of the roster. -/
def stationGoodIn (roster : StationSet) (k : Station) : Bool :=
  decide (k ≠ 0) && decide (k ≠ 31) && stationHas roster k

/-- R65 (2, 5, 6) and R66 to R71. -/
def payloadGood (map : Option TrackMap) (roster : StationSet) (sender : Station) : Payload → Bool
  | .beacon _ role held blocked lies =>
    held.all (bundleEntryGood map) && ascending (held.map (·.seg)) &&
      (segList blocked).all (fun seg => (mapRec map seg).defined) &&
      held.all (fun e => !segHas blocked e.seg) &&
      lies.all (fun e => (mapRec map e.seg).defined) && distinct (lies.map (·.seg)) &&
      (role == .wayside || lies.isEmpty) && decide (held.length ≤ Config.holdLimit)
  | .claim _ bundle | .reclaim _ bundle =>
    bundle.all (bundleEntryGood map) && distinct (bundle.map (·.seg)) && decide (bundle.length ≤ Config.bundleMax)
  | .release segs | .clear segs => segs.all (fun seg => (mapRec map seg).defined) && ascending segs
  | .guard segs =>
    segs.all (fun seg => (mapRec map seg).defined && (mapRec map seg).owner == some sender) && ascending segs
  | .lapse stations => stations != 0 && (List.finRange 32).all fun k => !stationHas stations k || stationGoodIn roster k
  | .lie seg _ _ answer =>
    (mapRec map seg).defined &&
      match answer with
      | none => true
      | some (claimant, _) => stationGoodIn roster claimant

/-! ## Frames on the line (R43 to R45, R50, R51) -/

/-- The bits a frame's CRC covers: urgency through payload (R45). -/
def frameCover (f : Frame) : List Bool :=
  bitsOf f.urgency ++ bitsOf f.sender ++ bitsOf f.kind ++ bitsOf f.length ++ bitsOf f.fingerprint ++ bitsOf f.digest ++
    byteBits f.payload

/-- The bits of a frame before stuffing, the dominant start bit first (R43); a dominant bit is false. -/
def frameBits (f : Frame) : List Bool := false :: (frameCover f ++ bitsOf f.crc)

/-- R44: stuffing, from the run of identical bits sent so far. -/
def stuffFrom : Nat → Bool → List Bool → List Bool
  | _, _, [] => []
  | run, last, b :: rest =>
    if (if b = last then run + 1 else 1) = 6 then b :: (!b) :: stuffFrom 1 (!b) rest
    else b :: stuffFrom (if b = last then run + 1 else 1) b rest

/-- R44: what a receiver makes of stuffed bits; none at a stuff error. -/
def unstuffFrom : Nat → Bool → List Bool → Option (List Bool)
  | _, _, [] => some []
  | run, last, b :: rest =>
    if run = 6 then
      if b = last then none else unstuffFrom 1 b rest
    else (unstuffFrom (if b = last then run + 1 else 1) b rest).map (b :: ·)

/-- The stuffed part of a frame on the line, from its start bit (R43, R44). -/
def frameWire (f : Frame) : List Bool := stuffFrom 0 true (frameBits f)

/-- R44: a run of six ends on the last CRC bit, so that the stuffed part ends on a stuff bit, of the level opposite to that bit. -/
def stuffBitFollows (f : Frame) : Bool := (frameWire f).getLast? != (frameBits f).getLast?

/-- The stuffed bits a receiver reads, without their stuff bits. -/
def unstuff (bits : List Bool) : Option (List Bool) := unstuffFrom 0 true bits

/-- A frame with its CRC (R43, R45, R76). -/
def sealFrame (sender : Station) (fingerprint digest : BitVec 16) (p : Payload) : Frame :=
  let bare : Frame :=
    { urgency := BitVec.ofNat 3 p.kind.urgency
      sender := BitVec.ofNat 5 sender.val
      kind := BitVec.ofNat 4 p.kind.code
      length := BitVec.ofNat 5 (payloadBytes p).length
      fingerprint := fingerprint
      digest := digest
      payload := payloadBytes p
      crc := 0 }
  { bare with crc := crcBits (frameCover bare) }

/-- The sender field as a station number. -/
def frameStation (f : Frame) : Station := ⟨f.sender.toNat, f.sender.isLt⟩

/-- R50 check 1: the kind of a frame whose kind is defined and whose urgency is tied to it. -/
def frameGoodKind (f : Frame) : Option Kind :=
  match kindOf f.kind.toNat with
  | some k => if f.urgency.toNat = k.urgency then some k else none
  | none => none

/-- R50 check 6. -/
def frameCrcGood (f : Frame) : Bool := crcBits (frameCover f) == f.crc

/-- R50 checks 1, 2, 3 and 6: the content of a frame, none where one of them fails. -/
def frameContent (map : Option TrackMap) (roster : StationSet) (f : Frame) : Option Payload :=
  if frameCrcGood f && stationGoodIn roster (frameStation f) && f.payload.length == f.length.toNat then
    match frameGoodKind f with
    | some k => (payloadOf k f.payload).filter (payloadGood map roster (frameStation f))
    | none => none
  else none

/-- R101, R103: a BEACON or a LAPSE as far as the peer table reads it, whatever other check of its payload fails (log entry 15): the
role of a sender that has a record, with nothing listed, or the stations of this roster. -/
def peerPart (roster : StationSet) (f : Frame) : Option Payload :=
  match kindOf f.kind.toNat, f.payload with
  | some .beacon, flags :: _ =>
    if 1 ≤ f.sender.toNat ∧ f.sender.toNat ≤ 30 then some (.beacon flags.msb (beaconRole flags) [] 0 []) else none
  | some .lapse, [b0, b1, b2, b3] => some (.lapse ((b0 ++ b1 ++ b2 ++ b3) &&& roster))
  | _, _ => none

/-- R51: the class of a received frame; the digest is not checked in LISTEN (R50). -/
def State.classOf (s : State) (f : Frame) : FrameClass :=
  if frameCrcGood f && f.fingerprint != mapFingerprint s.opr.map then .foreign
  else if (frameContent s.opr.map s.roster f).isSome && (s.mbu.station == .listen || f.digest == digest s.ctu) then .good
  else .faulty

/-! ## Replies and notices (R180 to R190) -/

/-- A two-byte field. -/
def bytes2 (n : Nat) : List Byte := [byteOf (n / 256), byteOf n]

/-- A three-byte field. -/
def bytes3 (n : Nat) : List Byte := [byteOf (n / 65536), byteOf (n / 256), byteOf n]

/-- An optional one-byte field, FFh when absent (R180). -/
def byteOr (n : Option Nat) : Byte :=
  match n with
  | some n => byteOf n
  | none => 0xFF

/-- R182: the status codes. -/
def Status.code : Status → Nat
  | .done => 0
  | .busy => 1
  | .refused => 2
  | .invalid => 3
  | .stale => 4
  | .empty => 5
  | .role => 6

/-- R182: the refusal reason codes. -/
def Reason.code : Reason → Nat
  | .notActive => 1
  | .wrongState => 2
  | .badPlace => 3
  | .tailPresent => 4
  | .keepStale => 5
  | .positionFault => 6
  | .notValid => 7
  | .notAtEnd => 8
  | .claimOutstanding => 9
  | .badSegment => 10
  | .repeated => 11
  | .notOwned => 12
  | .notPossessed => 13
  | .occupied => 14
  | .moving => 15
  | .routeSize => 16
  | .routeUndefined => 17
  | .routeRepeat => 18
  | .routeStart => 19
  | .routeFinal => 20
  | .routeGap => 21
  | .routeFork => 22
  | .routePassage => 23

/-- The bytes of a reply on DDO: status, length, data (R180). -/
def Reply.bytes (r : Reply) : List Byte := byteOf r.status.code :: byteOf r.data.length :: r.data

/-- Byte i that DDO gives in a transaction: the reply, then FFh (R180). -/
def Reply.onDdo (r : Reply) (i : Nat) : Byte := r.bytes.getD i 0xFF#8

/-- A reply DONE. -/
def Reply.done (data : List Byte) : Reply := { status := .done, data := data }

/-- A reply with no data. -/
def Reply.bare (status : Status) : Reply := { status := status, data := [] }

/-- A reply REFUSED with its reason. -/
def Reply.refuse (r : Reason) : Reply := { status := .refused, data := [byteOf r.code] }

/-- R182: the station state codes. -/
def StationState.code : StationState → Nat
  | .start => 0
  | .configFault => 1
  | .listen => 2
  | .announce => 3
  | .active => 4
  | .duplicateHalt => 5

/-- R182: the change cause codes. -/
def ChangeCause.code : ChangeCause → Nat
  | .none => 0
  | .startDone => 1
  | .config => 2
  | .listenDone => 3
  | .listenLimit => 4
  | .announceTaken => 5
  | .ownLease => 6
  | .vetoRun => 7
  | .rejectionLimit => 8
  | .driveFailure => 9
  | .duplicate => 10

/-- R182: the route engine state codes. -/
def RteState.code : RteState → Nat
  | .unplaced => 0
  | .placing => 1
  | .parked => 2
  | .routed => 3
  | .moving => 4
  | .halted => 5

/-- R182: the stop and halt cause codes. -/
def StopCause.code : StopCause → Nat
  | .reset => 0
  | .lost => 1
  | .position => 2
  | .keep => 3
  | .relisten => 4
  | .duplicate => 5

/-- R182: the position fault cause codes. -/
def FaultCause.code : FaultCause → Nat
  | .wrongTag => 0
  | .overrun => 1
  | .unexpectedTag => 2
  | .missingTag => 3
  | .creep => 4

/-- R182: the loss cause codes. -/
def LossCause.code : LossCause → Nat
  | .held => 0
  | .blocked => 1
  | .holdLimit => 2

/-- R182: the presence codes. -/
def Presence.code : Presence → Nat
  | .absent => 0
  | .present => 1
  | .lapsing => 2
  | .lapsed => 3

/-- R182: the outcome codes of POSSESSION after WON and LOST. -/
def PossessionEnd.code : PossessionEnd → Nat
  | .released => 2
  | .blocked => 3
  | .ended => 4

/-- R182: the outcome codes of LOST. -/
def Lost.code : Lost → Nat
  | .held => 0
  | .confirmed => 1

/-- R182: the motor output codes. -/
def Motor.code : Motor → Nat
  | .off => 0
  | .driveN => 1
  | .driveR => 2

/-- R182: the block cause codes. -/
def BlockCause.code : BlockCause → Nat
  | .lapse => 0
  | .guard => 1
  | .relistenLearned => 2

/-- R183, R196: the role codes. -/
def Role.code : Role → Nat
  | .carriage => 0
  | .wayside => 1

/-- R200: the configuration fault codes. -/
def ConfigFault.code : ConfigFault → Nat
  | .noStore => 1
  | .badCrc => 2
  | .badFormat => 3
  | .badStation => 4
  | .badQuorum => 5
  | .badSpeed => 6
  | .badMap => 7
  | .badLengths => 8
  | .badOwner => 9

/-- A flag or level as a number. -/
def flagCode (b : Bool) : Nat := if b then 1 else 0

/-- R190: the kind code of a notice. -/
def Notice.code : Notice → Nat
  | .link _ _ => 0
  | .peer _ _ => 1
  | .mapConflict _ => 2
  | .joinRetry _ => 3
  | .placedWon _ | .placedLost _ _ => 4
  | .offer _ _ _ => 5
  | .stalled _ _ _ => 6
  | .lieLate _ _ _ => 7
  | .lieRefused _ _ _ => 8
  | .lost _ _ _ => 9
  | .halted _ _ => 10
  | .arriving _ _ => 11
  | .position _ => 12
  | .tagBad _ _ => 13
  | .keepLapsed _ => 14
  | .possessionWon _ | .possessionLost _ _ | .possessionOver _ _ => 15
  | .throwing _ _ _ => 16
  | .occupancy _ _ _ => 17

/-- R190: the values of a notice. -/
def Notice.values : Notice → List Nat
  | .link state cause => [state.code, cause.code]
  | .peer station presence => [station.val, presence.code]
  | .mapConflict sender => [sender.val]
  | .joinRetry count => [count]
  | .placedWon head => [0, head.val]
  | .placedLost head cause => [1, head.val, cause.code]
  | .offer serial step distance => [serial.toNat, step, distance]
  | .stalled step seg cause => [step, seg.val, cause.code]
  | .lieLate step seg reported => [step, seg.val, lieCode reported]
  | .lieRefused seg lie cause => [seg.val, lieCode lie, causeCode cause]
  | .lost step seg what => [step, seg.val, what.code]
  | .halted cause headStep => [cause.code, headStep]
  | .arriving step seg => [step, seg.val]
  | .position fault => [fault.cause.code, fault.first, fault.second]
  | .tagBad count bits => [count, bits.toNat]
  | .keepLapsed state => [state.code]
  | .possessionWon count => [0, count]
  | .possessionLost first cause => [1, first.val, cause.code]
  | .possessionOver how count => [how.code, count]
  | .throwing seg lie cause => [seg.val, lieCode lie, causeCode cause]
  | .occupancy seg level guarded => [seg.val, flagCode level, flagCode guarded]

/-- R184: the data of a NOTICE reply. -/
def Notice.data (n : Notice) : List Byte :=
  byteOf n.code :: byteOf n.values.length :: n.values.flatMap bytes3

/-- R185: the data of a READ ENTRY reply. -/
def entryData (e : Entry) : List Byte :=
  (match e.claim with
    | .free => [0, 0, 0xFF]
    | .held h r => [1, byteOf h.val, byteOf (requiredCode r)]
    | .blocked _ => [2, 0, 0xFF]) ++
  [byteOr (e.reported.map lieCode),
   match e.claim with
    | .blocked c => byteOf c.code
    | .free | .held _ _ => 0xFF]

/-- R185: the data of a READ PEER reply. -/
def peerData (p : Peer) : List Byte :=
  [byteOf p.presence.code, byteOr (p.role.map Role.code)] ++ bytes2 (p.lease.getD 65535) ++ [byteOf (flagCode p.foreign)]

/-- R183: bytes 11 to 22 on a carriage. Bits 6 to 3 of byte 14, to which R183 gives no meaning, are 0: the model's choice
(log entry 28). -/
def State.carriageStatus (s : State) : List Byte :=
  [byteOf s.rte.state.code, byteOr s.headNum, byteOr s.rte.committedLimit,
   byteOf (128 * flagCode s.mou.stop + s.mou.stopCause.code),
   byteOr (s.head.map (·.val)), byteOr (s.tail.map (·.val))] ++
  (match s.pos.place with
    | some p => bytes3 p.offset
    | none => [0xFF, 0xFF, 0xFF]) ++
  [byteOf s.pos.badTags, byteOr (s.pos.fault.map (·.cause.code)), byteOf (flagCode s.mou.keep.isSome)]

/-- The lie state of the record at an index, none where there is no record. -/
def Toc.lieAt (t : Toc) (i : Nat) : Option Lie := (t.records[i]?).map (·.lie)

/-- The motor output of the record at an index. -/
def Toc.motorAt (t : Toc) (i : Nat) : Option Motor := (t.records[i]?).map (·.motor)

/-- R183: bytes 11 to 22 on a wayside. -/
def State.waysideStatus (s : State) : List Byte :=
  let lie := fun i => byteOr ((s.toc.lieAt i).map lieCode)
  let nibble := fun i => ((s.toc.motorAt i).map Motor.code).getD 15
  [lie 0, lie 1, lie 2, lie 3,
   byteOr ((s.toc.motorAt 0).map Motor.code), byteOr ((s.toc.motorAt 1).map Motor.code),
   byteOf (16 * nibble 2 + nibble 3), 0xFF, 0xFF,
   byteOf s.toc.queue.length, byteOf (flagCode s.toc.stagger.isSome), 0xFF]

/-- R183: the 23 data bytes of STATUS. -/
def State.statusData (s : State) : List Byte :=
  [byteOf s.me.val, byteOr (s.role.map Role.code), byteOf s.mbu.station.code, byteOf s.mbu.cause.code,
   byteOf ((s.opr.fault.map ConfigFault.code).getD 0), byteOf s.mbu.joinCount] ++
  bytes2 (digest s.ctu).toNat ++
  [byteOf (holdCount s.ctu s.me), byteOf s.dpt.notices.length, byteOf s.dpt.overflow] ++
  match s.role with
  | some .carriage => s.carriageStatus
  | some .wayside => s.waysideStatus
  | none => List.replicate 12 0xFF

end Sys2Proof.Machine
end

