-- ==== Sys2Proof/Machine/Ops.lean ====
section
/-! DEFINITION. The operations the blocks share: posting notices (R191), the transmit queue (R72 to R80), the motion outputs
(R140 to R143) and the guards under which a command of the table acts. -/
namespace Sys2Proof.Machine

open Sys2Proof

/-! ## The outcome of a command -/

/-- A command's next state; while reset is held the part does nothing (R194, log entry 2). -/
def live (f : State → State) (s : State) : Host.Outcome State Fault Refusal := .next (if s.inReset then s else f s)

/-! ## Notices (R191) -/

/-- R191: the queue with one more notice, or the overflow count one higher. -/
def Dpt.post (d : Dpt) (n : Notice) : Dpt :=
  if d.notices.length < Config.noticeMax then { d with notices := d.notices ++ [n] }
  else { d with overflow := saturate Config.byteTop (d.overflow + 1) }

/-- R191: post a notice. -/
def State.post (s : State) (n : Notice) : State := s.setDpt (s.dpt.post n)

/-- R191: post a notice under a condition. -/
def State.postIf (s : State) (b : Bool) (n : Notice) : State := if b then s.post n else s

/-! ## The transmit queue (R72 to R80) -/

/-- R75: the urgency of an entry's kind. -/
def EntryKey.urgency : EntryKey → Nat
  | .beacon => Kind.urgency .beacon
  | .claim => Kind.urgency .claim
  | .release => Kind.urgency .release
  | .lapse => Kind.urgency .lapse
  | .clear => Kind.urgency .clear
  | .guard => Kind.urgency .guard
  | .lie _ => Kind.urgency .lie

/-- R73: a request joined to an argument set of its kind. -/
def Args.join (old new : Args) : Args :=
  match old, new with
  | .segs a, .segs b => .segs (a ||| b)
  | .stations a, .stations b => .stations (a ||| b)
  | .lie _ _, .lie cause answer => .lie cause answer
  | old, _ => old

/-- R74: what a request adds beside the sent items. -/
def Args.beyond (sent new : Args) : Args :=
  match sent, new with
  | .segs a, .segs b => .segs (b &&& ~~~a)
  | .stations a, .stations b => .stations (b &&& ~~~a)
  | _, new => new

/-- R80: the argument set is an empty set. -/
def Args.isEmpty : Args → Bool
  | .segs a => a == 0
  | .stations a => a == 0
  | .beacon | .claim _ _ _ | .lie _ _ => false

/-- R72: the entry is in flight. -/
def TxEntry.inFlight (e : TxEntry) : Bool := e.flight.isSome

/-- R72: the entry of a kind. -/
def Txq.find (q : Txq) (key : EntryKey) : Option TxEntry := q.entries.find? fun e => e.key == key

/-- R57, R77: the entry in flight. -/
def Txq.flying (q : Txq) : Option TxEntry := q.entries.find? (·.inFlight)

/-- The queue with one entry replaced, or removed when there is none. -/
def Txq.replace (q : Txq) (key : EntryKey) (e : Option TxEntry) : Txq :=
  { q with entries := q.entries.filterMap fun x => if x.key = key then e else some x }

/-- R72: a new entry with the next age. -/
def Txq.create (q : Txq) (key : EntryKey) (args : Args) : Txq :=
  { entries := q.entries ++ [{ key := key, args := args, age := q.nextAge, flight := none }], nextAge := q.nextAge + 1 }

/-- R74: a request that meets its entry in flight. -/
def Txq.addPending (q : Txq) (e : TxEntry) (f : Flight) (args : Args) : Txq :=
  if (e.args.beyond args).isEmpty then q
  else
    match f.pending with
    | some p =>
      q.replace e.key
        (some { e with flight := some { f with pending := some { p with args := p.args.join (e.args.beyond args) } } })
    | none =>
      { q.replace e.key
          (some { e with flight := some { f with pending := some { args := e.args.beyond args, age := q.nextAge } } }) with
        nextAge := q.nextAge + 1 }

/-- R73, R74: a request that the queue accepts. A claim-type request that meets an entry leaves the queue as it is. -/
def Txq.request (q : Txq) (key : EntryKey) (args : Args) : Txq :=
  if args.isEmpty then q
  else
    match q.find key with
    | none => q.create key args
    | some e =>
      if key = .claim then q
      else
        match e.flight with
        | none => q.replace key (some { e with args := e.args.join args })
        | some f => q.addPending e f args

/-- R72, R73: the requests the queue takes: only in ANNOUNCE and ACTIVE; a LIE or GUARD names owned turnouts; a claim-type
request meets no claim-type entry. -/
def State.txAccepts (s : State) (key : EntryKey) (args : Args) : Bool :=
  s.online &&
    match key, args with
    | .lie seg, _ => s.owned.contains seg
    | .guard, .segs set => (segList set).all fun seg => s.owned.contains seg
    | .claim, _ => (s.txq.find .claim).isNone
    | _, _ => true

/-- R72 to R74: a request to the transmit queue; one that is refused changes nothing. -/
def State.txRequest (s : State) (key : EntryKey) (args : Args) : State :=
  if s.txAccepts key args then s.setTxq (s.txq.request key args) else s

/-- R73: a RELEASE request. -/
def State.requestRelease (s : State) (segs : List Seg) : State := s.txRequest .release (.segs (segSetOf segs))

/-- R79: withdraw the claim-type entry. The queue answers whether it was discarded at once. -/
def Txq.withdraw (q : Txq) : Txq × Bool :=
  match q.find .claim with
  | none => (q, false)
  | some e =>
    match e.flight with
    | none => (q.replace .claim none, true)
    | some f => (q.replace .claim (some { e with flight := some { f with withdrawn := true } }), false)

/-- R75: the entry that goes before another. -/
def TxEntry.before (a b : TxEntry) : Bool :=
  decide (a.key.urgency < b.key.urgency) || (a.key.urgency == b.key.urgency && decide (a.age < b.age))

/-- R75: the choice among the entries that are not in flight. -/
def Txq.choice (q : Txq) : Option TxEntry :=
  (q.entries.filter fun e => !e.inFlight).foldl
    (fun best e =>
      match best with
      | none => some e
      | some b => if e.before b then some e else some b) none

/-- R75, R42: the choice of a station that may start a frame. -/
def State.choice (s : State) : Option TxEntry := if s.online then s.txq.choice else none

/-- R76: what one frame takes of an argument set. -/
def sentArgs (key : EntryKey) (args : Args) : Args :=
  match key, args with
  | .release, .segs set | .clear, .segs set => .segs (segSetOf ((segList set).take Config.listMax))
  | _, args => args

/-- R76: the segments beyond the twelve of one frame, which stay as pending additions with the entry's own age (R77). -/
def leftOver (e : TxEntry) : Option Pending :=
  match e.args, sentArgs e.key e.args with
  | .segs all, .segs sent =>
    if all &&& ~~~sent = 0 then none else some { args := .segs (all &&& ~~~sent), age := e.age }
  | _, _ => none

/-- R72, R76: the entry in flight. -/
def TxEntry.launch (e : TxEntry) : TxEntry :=
  { e with args := sentArgs e.key e.args, flight := some { pending := leftOver e, withdrawn := false } }

/-- R163: the record of a segment. -/
def Toc.record (t : Toc) (seg : Seg) : Option Record := t.records.find? fun r => r.seg == seg

/-- R163: the lie state of a segment's record. -/
def Toc.lieOf (t : Toc) (seg : Seg) : Lie :=
  match t.record seg with
  | some r => r.lie
  | none => .unknown

/-- R76: the beacon of this station as its tables stand. -/
def State.beacon (s : State) : Payload :=
  .beacon (s.mbu.station == .announce) (s.role.getD .carriage) (holdings s.ctu s.me) (blockedSet s.ctu)
    (if s.isWayside then s.owned.map fun seg => { seg := seg, lie := s.toc.lieOf seg } else [])

/-- R76: the payload of an entry at the start bit. -/
def State.payloadOf (s : State) (e : TxEntry) : Payload :=
  match e.key, sentArgs e.key e.args with
  | .claim, .claim true bundle tag => .reclaim tag bundle
  | .claim, .claim false bundle tag => .claim tag bundle
  | .release, .segs set => .release (segList set)
  | .clear, .segs set => .clear (segList set)
  | .guard, .segs set => .guard (segList set)
  | .lapse, .stations set => .lapse set
  | .lie seg, .lie cause answer => .lie seg (s.toc.lieOf seg) cause (answer.map fun a => (a.claimant, a.tag.getD 0))
  | _, _ => s.beacon

/-- R59, R72, R81: the identity of an entry: a CLAIM and a RECLAIM are of two kinds, a LIE goes by its turnout too (log entry 31). -/
def TxEntry.identity (e : TxEntry) : SendId :=
  match e.key, e.args with
  | .beacon, _ => { kind := .beacon, turnout := none }
  | .claim, .claim true _ _ => { kind := .reclaim, turnout := none }
  | .claim, _ => { kind := .claim, turnout := none }
  | .release, _ => { kind := .release, turnout := none }
  | .lapse, _ => { kind := .lapse, turnout := none }
  | .clear, _ => { kind := .clear, turnout := none }
  | .guard, _ => { kind := .guard, turnout := none }
  | .lie seg, _ => { kind := .lie, turnout := some seg }

/-- R42, R76: the frame built at a start bit, as the frame this station sends. -/
def State.ownFrame (s : State) (e : TxEntry) : OwnFrame :=
  { identity := e.identity, payload := s.payloadOf e
    frame := sealFrame s.me (mapFingerprint s.opr.map) (digest s.ctu) (s.payloadOf e) }

/-- R57: the outcomes of a send. -/
inductive SendOutcome where
  | taken
  | rejected
  | notSent
deriving DecidableEq, Repr

/-- R77, R79: what the queue tells a claim-type entry's requester when the entry leaves it. -/
inductive ClaimTold where
  | taken (withdrawn : Bool)
  | discarded
deriving DecidableEq, Repr

/-- R77: the entry after a frame that was taken. -/
def TxEntry.afterTaken (e : TxEntry) (f : Flight) : Option TxEntry :=
  f.pending.map fun p => { e with args := p.args, age := p.age, flight := none }

/-- R77: the entry after a frame that was rejected or not sent. -/
def TxEntry.mergedBack (e : TxEntry) (f : Flight) : TxEntry :=
  match f.pending with
  | some p => { e with args := e.args.join p.args, flight := none }
  | none => { e with flight := none }

/-- R77, R79: the outcome of the entry in flight; nothing where no entry is (R57, after a relisten). -/
def Txq.outcome (q : Txq) (o : SendOutcome) : Txq × Option ClaimTold :=
  match q.flying with
  | none => (q, none)
  | some e =>
    match e.flight with
    | none => (q, none)
    | some f =>
      match o with
      | .taken => (q.replace e.key (e.afterTaken f), if e.key = .claim then some (.taken f.withdrawn) else none)
      | .rejected | .notSent =>
        if f.withdrawn then (q.replace e.key none, some .discarded) else (q.replace e.key (some (e.mergedBack f)), none)

/-- R78: an argument set without some stations. -/
def Args.without (args : Args) (set : StationSet) : Args :=
  match args with
  | .stations a => .stations (a &&& ~~~set)
  | args => args

/-- R78, R80: an entry of the queue after stations were withdrawn from the LAPSE entry. -/
def TxEntry.withoutStations (e : TxEntry) (set : StationSet) : Option TxEntry :=
  if e.key = .lapse then
    match e.flight with
    | none => if (e.args.without set).isEmpty then none else some { e with args := e.args.without set }
    | some f =>
      some { e with flight := some { f with
        pending := (f.pending.map fun p => { p with args := p.args.without set }).filter fun p => !p.args.isEmpty } }
  else some e

/-- R78: stations withdrawn from the LAPSE entry. -/
def Txq.withoutStations (q : Txq) (set : StationSet) : Txq :=
  { q with entries := q.entries.filterMap fun e => e.withoutStations set }

/-- R80: the emptied queue; ages run on. -/
def Txq.emptied (q : Txq) : Txq := { q with entries := [] }

/-! ## The motion outputs (R140 to R143) -/

/-- R143: both duties 0 at once. -/
def Mou.dropDuty (m : Mou) : Mou := { m with current := 0, next := 0 }

/-- R140, R143: STOP asserted; the cause is taken when STOP was released. -/
def Mou.assertStop (m : Mou) (cause : StopCause) : Mou :=
  { m.dropDuty with stop := true, stopCause := if m.stop then m.stopCause else cause }

/-- R140: assert STOP. -/
def State.assertStop (s : State) (cause : StopCause) : State := s.setMou (s.mou.assertStop cause)

/-- R144: the next duty from R142. -/
def State.refreshDuty (s : State) : State := s.setMou { s.mou with next := s.duty }

/-- R154: the creep count restarted. -/
def Pos.restartCreep (p : Pos) : Pos := { p with place := p.place.map fun q => { q with creep := 0 } }

/-- R109, R143, R154: a change of the route engine's state; leaving MOVING drops the duty at once. -/
def State.setEngine (s : State) (state : RteState) : State :=
  if s.rte.state = state then s
  else
    let s1 := (s.setRte { s.rte with state := state }).setPos s.pos.restartCreep
    if s.rte.state = .moving then s1.setMou s1.mou.dropDuty else s1

end Sys2Proof.Machine
end

