-- ==== Sys2Proof/Machine/Table.lean ====
section
/-! DEFINITION. The claim table unit: the effect of each kind of taken frame on the table (R24 to R36), the change report
(R23), and what a listening station learns (R86, R87). -/
namespace Sys2Proof.Machine

open Sys2Proof

/-! ## The effect of a frame on the table -/

/-- R24 condition 1, R25: the entry can be won. -/
def Entry.available (e : Entry) (reclaim : Bool) : Bool := e.isFree || (reclaim && e.isBlocked)

/-- R24, R25: a claim-type frame wins. -/
def claimWins (t : Table) (sender : Station) (reclaim : Bool) (bundle : List BundleEntry) : Bool :=
  bundle.all (fun e => t[e.seg].available reclaim) &&
    decide (holdCount t sender + bundle.length ≤ Config.holdLimit)

/-- R26: the loss cause. -/
def lossCause (t : Table) (reclaim : Bool) (bundle : List BundleEntry) : LossCause :=
  if bundle.any fun e => t[e.seg].isHeld then .held
  else if !reclaim && bundle.any fun e => t[e.seg].isBlocked then .blocked
  else .holdLimit

/-- R24: the table after a win. -/
def winTable (t : Table) (sender : Station) (bundle : List BundleEntry) : Table :=
  tab fun i =>
    match bundle.find? fun e => e.seg == i with
    | some e => { t[i] with claim := .held sender e.required }
    | none => t[i]

/-- R24, R25: the table after a taken claim-type frame. -/
def claimTable (t : Table) (sender : Station) (reclaim : Bool) (bundle : List BundleEntry) : Table :=
  if claimWins t sender reclaim bundle then winTable t sender bundle else t

/-- R28: the table after a taken RELEASE. -/
def releaseTable (t : Table) (sender : Station) (segs : List Seg) : Table :=
  tab fun i => if segs.contains i && t[i].heldBy sender then { t[i] with claim := .free } else t[i]

/-- R29: the entry is HELD by a station of a set. -/
def Entry.heldIn (e : Entry) (set : StationSet) : Bool := e.holder.any (stationHas set)

/-- R30: the segment is a TURNOUT whose map owner is in a set. -/
def ownedIn (map : Option TrackMap) (set : StationSet) (seg : Seg) : Bool := (mapRec map seg).owner.any (stationHas set)

/-- R29, R30: the table after a taken LAPSE. -/
def lapseTable (map : Option TrackMap) (t : Table) (set : StationSet) : Table :=
  tab fun i =>
    { claim := if t[i].heldIn set then .blocked .lapse else t[i].claim
      reported := if ownedIn map set i then some .unknown else t[i].reported }

/-- R32: the table after a taken CLEAR. -/
def clearedTable (t : Table) (segs : List Seg) : Table :=
  tab fun i => if segs.contains i && t[i].isBlocked then { t[i] with claim := .free } else t[i]

/-- R33: the table after a taken GUARD. -/
def guardTable (t : Table) (segs : List Seg) : Table :=
  tab fun i => if segs.contains i && t[i].isFree then { t[i] with claim := .blocked .guard } else t[i]

/-- R34, R35: the sender may report the lie of a segment. -/
def mayReport (map : Option TrackMap) (sender : Station) (seg : Seg) : Bool := (mapRec map seg).owner == some sender

/-- R34: the table after a taken LIE. -/
def lieTable (map : Option TrackMap) (t : Table) (sender : Station) (seg : Seg) (lie : Lie) : Table :=
  tab fun i => if i = seg && mayReport map sender i then { t[i] with reported := some lie } else t[i]

/-- R35: one entry after the lie list of a taken BEACON. -/
def beaconEntry (map : Option TrackMap) (sender : Station) (lies : List LieEntry) (i : Seg) (e : Entry) : Entry :=
  match lies.find? fun l => l.seg == i with
  | some l => if mayReport map sender i then { e with reported := some l.lie } else e
  | none => e

/-- R35: the table after the lie list of a taken BEACON. -/
def beaconTable (map : Option TrackMap) (t : Table) (sender : Station) (lies : List LieEntry) : Table :=
  tab fun i => beaconEntry map sender lies i t[i]

/-- R21, R22: the table after a taken frame in ANNOUNCE and ACTIVE. -/
def applyPayload (map : Option TrackMap) (t : Table) (sender : Station) : Payload → Table
  | .beacon _ _ _ _ lies => beaconTable map t sender lies
  | .claim _ bundle => claimTable t sender false bundle
  | .reclaim _ bundle => claimTable t sender true bundle
  | .release segs => releaseTable t sender segs
  | .lapse set => lapseTable map t set
  | .clear segs => clearedTable t segs
  | .guard segs => guardTable t segs
  | .lie seg lie _ _ => lieTable map t sender seg lie

/-! ## Learning (R86, R87) -/

/-- R86: the claim of one entry after a taken BEACON is learned. -/
def learnClaim (sender : Station) (held : List BundleEntry) (blocked : SegSet) (i : Seg) (c : Claim) : Claim :=
  match held.find? fun e => e.seg == i with
  | some e => .held sender e.required
  | none =>
    if segHas blocked i then
      match c with
      | .blocked cause => .blocked cause
      | .free | .held _ _ => .blocked .relistenLearned
    else
      match c with
      | .held h r => if h = sender then .free else .held h r
      | .free | .blocked _ => .free

/-- R86: the table after a taken BEACON is learned. -/
def learnBeacon (map : Option TrackMap) (t : Table) (sender : Station) (held : List BundleEntry) (blocked : SegSet)
    (lies : List LieEntry) : Table :=
  tab fun i => { beaconEntry map sender lies i t[i] with claim := learnClaim sender held blocked i t[i].claim }

/-- R86, R87: the table after a taken GOOD frame is learned. -/
def learnPayload (map : Option TrackMap) (t : Table) (sender : Station) (p : Payload) : Table :=
  match p with
  | .beacon _ _ held blocked lies => learnBeacon map t sender held blocked lies
  | p => applyPayload map t sender p

/-! ## The change report (R23) -/

/-- R23: an entry whose state or holder changed. -/
structure Change where
  seg : Seg
  old : Claim
  new : Claim
deriving DecidableEq, Repr

/-- R23: a TURNOUT whose reported lie changed. -/
structure LieChange where
  seg : Seg
  old : Lie
  new : Lie
deriving DecidableEq, Repr

/-- R23: the outcome of a claim-type frame. -/
inductive ClaimOutcome where
  | win
  | loss (cause : LossCause)
deriving DecidableEq, Repr

/-- R23: the change report on a taken frame. -/
structure Report where
  sender : Station
  content : Payload
  outcome : Option ClaimOutcome
  accepted : Bool
  changes : List Change
  lies : List LieChange
deriving DecidableEq, Repr

/-- R24, R26: the outcome of a claim-type frame on a table. -/
def claimOutcome (t : Table) (sender : Station) (reclaim : Bool) (bundle : List BundleEntry) : ClaimOutcome :=
  if claimWins t sender reclaim bundle then .win else .loss (lossCause t reclaim bundle)

/-- R23: the entries whose state or holder changed. -/
def changesOf (before after : Table) : List Change :=
  allSegs.filterMap fun i =>
    if before[i].digestByte = after[i].digestByte then none
    else some { seg := i, old := before[i].claim, new := after[i].claim }

/-- R23: the segments whose reported lie changed. -/
def lieChangesOf (before after : Table) : List LieChange :=
  allSegs.filterMap fun i =>
    match before[i].reported, after[i].reported with
    | some old, some new => if old = new then none else some { seg := i, old := old, new := new }
    | _, _ => none

/-- R23: the change report of a frame. -/
def reportOf (map : Option TrackMap) (t : Table) (sender : Station) (p : Payload) : Report :=
  { sender := sender
    content := p
    outcome :=
      match p with
      | .claim _ bundle => some (claimOutcome t sender false bundle)
      | .reclaim _ bundle => some (claimOutcome t sender true bundle)
      | _ => none
    accepted :=
      match p with
      | .lie seg _ _ _ => mayReport map sender seg
      | _ => false
    changes := changesOf t (applyPayload map t sender p)
    lies := lieChangesOf t (applyPayload map t sender p) }

/-- R106: the change makes a segment HELD by a station. -/
def Change.gains (c : Change) (k : Station) : Bool :=
  match c.new with
  | .held h _ => h == k
  | .free | .blocked _ => false

/-- R106: the change takes a segment from a station. -/
def Change.loses (c : Change) (k : Station) : Bool :=
  (match c.old with
    | .held h _ => h == k
    | .free | .blocked _ => false) && !c.gains k

/-- R106: the change leaves a segment BLOCKED. -/
def Change.blocks (c : Change) : Bool :=
  match c.new with
  | .blocked _ => true
  | .free | .held _ _ => false

end Sys2Proof.Machine
end

