-- ==== Sys2Proof/Machine/Route.lean ====
section
/-! DEFINITION. The route engine: flags that follow the table (R106), the planner (R114 to R119), confirmations (R120, R121),
offers (R133), the loss of committed track (R135), halts (R136), and what the engine does at a relisten, at the return to
ACTIVE and at DUPLICATE_HALT (R126, R127, R109). -/
namespace Sys2Proof.Machine

open Sys2Proof

/-! ## Halts and offers -/

/-- R136: the head step number a HALTED notice carries; FFh where there is no head step. -/
def State.haltStep (s : State) : Nat := s.headNum.getD Config.byteTop

/-- R136: a MOVING engine enters HALTED, with its notice; an engine in another state keeps its state. -/
def State.halt (s : State) (cause : StopCause) : State :=
  if s.rte.state = .moving then
    let s1 := s.setEngine .halted
    (s1.setRte { s1.rte with offer := none }).post (.halted cause s.haltStep)
  else s

/-- R133: the authority limit that lies beyond the committed limit while an offer may be current. -/
def State.offerable (s : State) : Option Nat :=
  if (s.rte.state == .routed || s.rte.state == .moving) && !s.mou.stop then
    match s.authority, s.rte.committedLimit with
    | some a, some k => if k < a then some a else none
    | _, _ => none
  else none

/-- R133: the offer rule. -/
def State.refreshOffer (s : State) : State :=
  match s.offerable with
  | none => s.setRte { s.rte with offer := none }
  | some a =>
    if s.rte.offer.any fun o => o.step == a then s
    else
      (s.setRte { s.rte with
        serial := s.rte.serial + 1
        offer := some { serial := s.rte.serial + 1, step := a, distance := s.distance a } }).post
        (.offer (s.rte.serial + 1) a (s.distance a))

/-! ## The occupancy holds (R108) -/

/-- R108: the occupancy, tail first. -/
def State.occupancy (s : State) : List Seg := s.tail.toList ++ s.head.toList

/-- R106, R108: the segments the engine shows held. -/
def Rte.heldSegs (r : Rte) : List Seg :=
  (r.route.filter (·.held)).map (·.seg) ++ (r.holds.filter (·.held)).map (·.seg)

/-- R108: the segment of a step or of an occupancy hold. -/
def Rte.follows (r : Rte) (seg : Seg) : Bool := r.route.any (fun st => st.seg == seg) || r.holds.any fun h => h.seg == seg

/-- R108: the occupancy holds that the steps under the occupancy leave when the route is cleared. -/
def State.holdsFromRoute (s : State) : List Hold :=
  s.occupancy.map fun seg =>
    match stepOn s.rte.route (some seg) with
    | some st => { seg := seg, held := st.held, formerly := st.formerly }
    | none => { seg := seg, held := false, formerly := false }

/-- R108, R132: the route cleared with the carriage still placed. -/
def State.clearRoute (s : State) : State :=
  s.setRte { s.rte with
    holds := if s.rte.route.isEmpty then s.rte.holds else s.holdsFromRoute
    route := [], committedLimit := none, offer := none }

/-! ## Withdrawing the outstanding claim (R79) -/

/-- R79, R111, R124: the planner's claim withdrawn; it stays outstanding until the queue reports its outcome. -/
def State.withdrawClaim (s : State) : State :=
  match s.rte.claim with
  | none => s
  | some o =>
    (s.setTxq s.txq.withdraw.1).setRte
      { s.rte with claim := if s.txq.withdraw.2 then none else some { o with withdrawn := true } }

/-! ## The planner (R114 to R117) -/

/-- R115: what the planner sees of a step or of an occupancy hold. -/
structure PlanItem where
  num : Nat
  seg : Seg
  required : Option Points
  held : Bool
  /-- An occupancy step, or formerly held (R115). -/
  reclaim : Bool
deriving DecidableEq, Repr

/-- R115: a step as the planner sees it. -/
def State.planStep (s : State) (st : Step) : PlanItem :=
  { num := st.num, seg := st.seg, required := st.required, held := st.held,
    reclaim := st.formerly || s.isOccupied st.seg }

/-- R108, R115: an occupancy hold as a step. -/
def planHold (i : Nat) (h : Hold) : PlanItem := { num := i, seg := h.seg, required := none, held := h.held, reclaim := true }

/-- R115: the route, or the occupancy holds when no route is loaded. -/
def State.planItems (s : State) : List PlanItem :=
  if s.rte.route.isEmpty then s.rte.holds.mapIdx planHold else s.rte.route.map s.planStep

/-- The elements of a list through the first that meets a test. -/
def takeThrough {α : Type} (p : α → Bool) : List α → List α
  | [] => []
  | a :: rest => if p a then [a] else a :: takeThrough p rest

/-- R115: the sort, held-step, size and final-step cuts, from the claim front on. -/
def bundleRun (items : List PlanItem) : List PlanItem :=
  match items.dropWhile (·.held) with
  | [] => []
  | front :: rest =>
    (front :: rest.takeWhile fun p => !p.held && p.reclaim == front.reclaim).take Config.bundleMax

/-- R115: the claim-ahead step. -/
def State.claimAheadStep (s : State) : Nat := s.headNum.getD 0 + s.option (·.claimAhead)

/-- R115: the refuge and claim-ahead cuts of a fresh bundle. -/
def State.cutFresh (s : State) (run : List PlanItem) : List PlanItem :=
  takeThrough (fun p => (s.seg p.seg).isRefuge) (run.takeWhile fun p => decide (p.num ≤ s.claimAheadStep))

/-- R116: the room under the hold limit. -/
def State.room (s : State) : Nat := Config.holdLimit - holdCount s.ctu s.me

/-- R115, R116: the bundle from the route or the occupancy holds; empty where none is formed. -/
def State.routeBundle (s : State) : List PlanItem :=
  match bundleRun s.planItems with
  | [] => []
  | front :: rest => (if front.reclaim then front :: rest else s.cutFresh (front :: rest)).take s.room

/-- R111: the placement reclaim: every occupancy hold not held. -/
def State.placementBundle (s : State) : List PlanItem := (s.rte.holds.mapIdx planHold).filter fun p => !p.held

/-- R114: the bundle the planner would queue now. -/
def State.bundle (s : State) : List PlanItem :=
  match s.rte.state with
  | .placing => s.placementBundle
  | .parked | .routed | .moving | .halted => s.routeBundle
  | .unplaced => []

/-- R114: the planner may queue a claim. -/
def State.mayPlan (s : State) : Bool := s.isActive && s.isCarriage && s.rte.claim.isNone && s.rte.holdOff.isNone

/-- R117: the tag of a claim on the bundled steps. -/
def tagSteps (route : List Step) (bundle : List PlanItem) (tag : Tag) : List Step :=
  route.map fun st => if bundle.any fun p => p.seg == st.seg then { st with tag := some tag } else st

/-- R63, R116: the bundle as the frame carries it. -/
def bundleEntries (bundle : List PlanItem) : List BundleEntry := bundle.map fun p => { seg := p.seg, required := p.required }

/-- R114, R117: queue a claim. -/
def State.queueClaim (s : State) (front : PlanItem) (rest : List PlanItem) : State :=
  let args : Args := .claim front.reclaim (bundleEntries (front :: rest)) s.rte.tagCounter
  let o : Outstanding :=
    { placement := s.rte.state == .placing, reclaim := front.reclaim, bundle := bundleEntries (front :: rest),
      tag := s.rte.tagCounter, first := front.num, withdrawn := false }
  (s.txRequest .claim args).setRte { s.rte with
    route := tagSteps s.rte.route (front :: rest) s.rte.tagCounter
    tagCounter := s.rte.tagCounter + 1
    claim := if s.txAccepts .claim args then some o else none }

/-- R112: the placement wins. -/
def State.placementWon (s : State) : State :=
  let s1 := s.setEngine (if s.rte.locatedHalted then .halted else .parked)
  (s1.setRte { s1.rte with locatedHalted := false }).postIf s.head.isSome (.placedWon (s.head.getD 0))

/-- R111, R112: in PLACING with every occupancy segment held and no placement reclaim outstanding, the placement wins. -/
def State.placementDone (s : State) : Bool :=
  s.rte.state == .placing && s.placementBundle.isEmpty && !s.rte.claim.any (·.placement)

/-- R114: the planner's test. -/
def State.plan (s : State) : State :=
  let s1 := if s.placementDone then s.placementWon else s
  if s1.mayPlan then
    match s1.bundle with
    | [] => s1
    | front :: rest => s1.queueClaim front rest
  else s1

/-- R131, R133, R144: the authority acted on by the offer rule, and the next duty. -/
def State.refresh (s : State) : State := s.refreshOffer.refreshDuty

/-- R114, R131, R133, R144: the planner's test, the offer rule, the next duty. -/
def State.settle (s : State) : State := s.plan.refresh

/-! ## Following the change report (R106, R120, R121) -/

/-- R106: the change of a segment in a report. -/
def Report.change (r : Report) (seg : Seg) : Option Change := r.changes.find? fun c => c.seg == seg

/-- R106, R122: a step after the report's entry changes. -/
def Step.follow (me : Station) (lieWait : Nat) (r : Report) (st : Step) : Step :=
  match r.change st.seg with
  | none => st
  | some c =>
    if c.gains me then
      { st with held := true, formerly := false, lieWait := if st.required.isSome then some lieWait else st.lieWait }
    else if c.loses me then
      { st with held := false, confirmed := false, lieWait := none, formerly := st.formerly || (st.held && c.blocks) }
    else st

/-- R106, R108: an occupancy hold after the report's entry changes. -/
def Hold.follow (me : Station) (r : Report) (h : Hold) : Hold :=
  match r.change h.seg with
  | none => h
  | some c =>
    if c.gains me then { h with held := true, formerly := false }
    else if c.loses me then { h with held := false, formerly := h.formerly || (h.held && c.blocks) }
    else h

/-- R121: a step after the report's reported-lie changes. -/
def Step.unconfirm (r : Report) (st : Step) : Step :=
  match st.required with
  | none => st
  | some p =>
    if r.lies.any fun c => c.seg == st.seg && c.new != pointsLie p then { st with confirmed := false } else st

/-- R120: the answer part's tag matches the step's claim tag, or the LIE carries no tag: the tag byte of a REPORT is not a
tag (R175). -/
def tagMatches (cause : LieCause) (tag : Tag) (stepTag : Option Tag) : Bool := cause == .report || stepTag == some tag

/-- R120: the causes that confirm. -/
def LieCause.confirms : LieCause → Bool
  | .done | .confirmed | .report => true
  | .moving | .refusedOccupied | .timeout | .detectorConflict | .lockLost | .occupiedDuringThrow => false

/-- R121: the causes that refuse. -/
def LieCause.refuses : LieCause → Bool
  | .refusedOccupied | .timeout | .detectorConflict | .lockLost | .occupiedDuringThrow => true
  | .done | .confirmed | .moving | .report => false

/-- R120: a step after an accepted LIE. -/
def Step.confirm (me : Station) (r : Report) (st : Step) : Step :=
  match r.content, st.required with
  | .lie seg lie cause (some (claimant, tag)), some p =>
    if r.accepted && claimant == me && seg == st.seg && st.held && tagMatches cause tag st.tag &&
        lie == pointsLie p && cause.confirms then
      { st with confirmed := true, lieWait := none }
    else st
  | _, _ => st

/-- R106, R120, R121: the route after a change report. -/
def followRoute (me : Station) (lieWait : Nat) (r : Report) (route : List Step) : List Step :=
  route.map fun st => ((st.follow me lieWait r).unconfirm r).confirm me r

/-- R121: the LIE_REFUSED notice an accepted LIE posts. -/
def refusalOf (me : Station) (r : Report) (route : List Step) : Option Notice :=
  match r.content with
  | .lie seg lie cause (some (claimant, tag)) =>
    if r.accepted && claimant == me && cause.refuses &&
        route.any fun st => st.seg == seg && tagMatches cause tag st.tag then
      some (.lieRefused seg lie cause)
    else none
  | _ => none

/-- R135: what an event took from a step. -/
def lossOf (before after : Step) : Option Lost :=
  if before.held && !after.held then some .held
  else if before.confirmed && !after.confirmed then some .confirmed
  else none

/-- R135: the committed steps that lost a flag in an event. -/
def lostSteps (before after : List Step) : List (Step × Step × Lost) :=
  (before.zip after).filterMap fun p =>
    if p.2.committed then (lossOf p.1 p.2).map fun l => (p.1, p.2, l) else none

/-- R135: the step a LOST notice names: the lowest committed step the event made not valid. -/
def lostStep (before after : List Step) : Option (Step × Lost) :=
  match (lostSteps before after).find? fun p => p.1.valid && !p.2.1.valid with
  | some p => some (p.2.1, p.2.2)
  | none => ((lostSteps before after).head?).map fun p => (p.2.1, p.2.2)

/-- R135: the loss rule, from the route as it stood before the event. -/
def State.loseCommitted (s : State) (before : List Step) : State :=
  match lostStep before s.rte.route with
  | none => s
  | some (st, what) => ((s.post (.lost st.num st.seg what)).assertStop .lost).halt .lost

/-! ## The outcome of the planner's claim (R112, R118, R119, R125) -/

/-- R112: the placement reclaim loses; the placement and its fault go with it (R148, R161). -/
def State.placementLost (s : State) (cause : LossCause) : State :=
  let head := s.head
  let s1 := s.requestRelease ((s.rte.holds.filter (·.held)).map (·.seg))
  let s2 := s1.setEngine .unplaced
  let s3 := s2.setPos { s2.pos with place := none, fault := none }
  (s3.setRte { s3.rte with holds := [], locatedHalted := false }).postIf head.isSome (.placedLost (head.getD 0) cause)

/-- R119: the hold-off time of this station. -/
def State.holdOffTime (s : State) : Nat := Config.holdOffBase + Config.holdOffUnit * s.me.val

/-- R119: the miss count after a loss of a bundle. -/
def Rte.missesAfter (r : Rte) (seg : Option Seg) : Nat := if r.lastLost = seg then r.misses + 1 else 1

/-- R119: a counted loss. -/
def State.countLoss (s : State) (o : Outstanding) (cause : LossCause) : State :=
  let seg := (o.bundle.head?).map (·.seg)
  let stalled := s.rte.missesAfter seg == Config.stalledAfter
  (s.setRte { s.rte with
    holdOff := some s.holdOffTime
    misses := if stalled then 0 else s.rte.missesAfter seg
    lastLost := seg }).postIf stalled (.stalled o.first (seg.getD 0) cause)

/-- R118, R125: a win of the planner's claim; won segments that are no step's or occupancy hold's are released. -/
def State.claimWon (s : State) (o : Outstanding) : State :=
  let stray := (o.bundle.map (·.seg)).filter fun seg => !s.rte.follows seg
  let s1 := (s.setRte { s.rte with misses := 0 }).requestRelease stray
  if o.placement then s1.placementWon else s1

/-- R112, R119, R125: a loss of the planner's claim. -/
def State.claimLost (s : State) (o : Outstanding) (cause : LossCause) : State :=
  if o.withdrawn then s
  else if o.placement then s.placementLost cause
  else s.countLoss o cause

/-- R118: the outcome of the planner's claim, from what the queue tells and the change report. -/
def State.claimOutcome (s : State) (told : Option ClaimTold) (outcome : Option ClaimOutcome) : State :=
  match told, s.rte.claim with
  | some .discarded, some _ => s.setRte { s.rte with claim := none }
  | some (.taken _), some o =>
    let s1 := s.setRte { s.rte with claim := none }
    match outcome with
    | some .win => s1.claimWon o
    | some (.loss cause) => s1.claimLost o cause
    | none => s1
  | _, _ => s

/-- R106, R118, R120, R121, R135: the engine acts on a change report and on its own claim's outcome. That LIE_REFUSED comes after LOST and HALTED, and
before the OFFER of the same taken LIE, is the model's choice (log entry 18). -/
def State.routeReport (s : State) (r : Report) (told : Option ClaimTold) : State :=
  let before := s.rte.route
  let after := followRoute s.me (Config.secondMs * s.option (·.lieWait)) r before
  let s1 := s.setRte { s.rte with route := after, holds := s.rte.holds.map (Hold.follow s.me r) }
  let s2 := s1.loseCommitted before
  let s3 :=
    match refusalOf s.me r after with
    | some n => s2.post n
    | none => s2
  (s3.claimOutcome told r.outcome).settle

/-- R79, R118: the engine is told of an outcome that is no verdict TAKEN. -/
def State.routeTold (s : State) (told : Option ClaimTold) : State :=
  if told.isSome then (s.claimOutcome told none).settle else s

/-! ## Relisten, return and halt (R109, R126, R127) -/

/-- R126: a step at a relisten. -/
def Step.relisten (st : Step) : Step :=
  { st with formerly := st.formerly || st.held, held := false, confirmed := false, lieWait := none }

/-- R126: an occupancy hold at a relisten. -/
def Hold.relisten (h : Hold) : Hold := { h with formerly := h.formerly || h.held, held := false }

/-- R126: the engine at a relisten: flags, claim, hold-off, misses; the offer is withdrawn (R147). -/
def Rte.relisten (r : Rte) : Rte :=
  { r with
    route := r.route.map Step.relisten, holds := r.holds.map Hold.relisten
    claim := none, holdOff := none, misses := 0, offer := none, locatedHalted := false }

/-- R126: the engine and the motion outputs at a relisten. -/
def State.routeRelisten (s : State) : State :=
  let s1 := s.setRte s.rte.relisten
  match s.rte.state with
  | .moving => (s1.assertStop .relisten).halt .relisten
  | .placing => s1.setEngine .unplaced
  | .unplaced | .parked | .routed | .halted => s1

/-- R127: the engine at the return to ACTIVE. -/
def State.routeReturn (s : State) : State :=
  (if s.rte.state = .unplaced ∧ s.pos.place.isSome then s.setEngine .placing else s).settle

/-- R109, R141: the engine and the motion outputs at the entry to DUPLICATE_HALT; every timer stops. -/
def State.routeFreeze (s : State) : State :=
  let s1 := (s.assertStop .duplicate).halt .duplicate
  (s1.setRte { s1.rte with
    route := s1.rte.route.map fun st => { st with lieWait := none }
    claim := none, holdOff := none, offer := none }).setMou { s1.mou.dropDuty with keep := none }

end Sys2Proof.Machine
end

