-- ==== Sys2Proof/Machine/Position.lean ====
section
/-! DEFINITION. The position tracker: counts (R151 to R154), tail release (R152), tags (R155 to R159), position faults (R160). -/
namespace Sys2Proof.Machine

open Sys2Proof

/-- R148, R149: the tracker reads its inputs: on a CARRIAGE from LISTEN on, up to DUPLICATE_HALT. -/
def State.tracking (s : State) : Bool := s.isCarriage && (s.mbu.station == .listen || s.online)

/-- R160: a position fault is raised; the engine withdraws its offer (R133, R136). -/
def State.raiseFault (s : State) (f : PosFault) : State :=
  ((((s.setPos { s.pos with fault := some f }).post (.position f)).assertStop .position).halt .position).refresh

/-- R123, R152: the front of the route queue, or the tail's occupancy hold, given up. -/
def State.dropTailStep (s : State) : State :=
  match s.rte.route with
  | st :: rest =>
    let s1 := s.setRte { s.rte with route := rest }
    if st.held then s1.requestRelease [st.seg] else s1
  | [] =>
    let gone := s.rte.holds.filter fun h => some h.seg == s.tail && h.held
    let s1 := s.setRte { s.rte with holds := s.rte.holds.filter fun h => some h.seg != s.tail }
    s1.requestRelease (gone.map (·.seg))

/-- The tracker's placement with no tail. -/
def Placement.dropTail (p : Placement) : Placement := { p with tail := none }

/-- R152: the tail is released. -/
def State.releaseTail (s : State) : State :=
  let s1 := s.dropTailStep
  (s1.setPos { s1.pos with place := s1.pos.place.map Placement.dropTail }).settle

/-- R151 step 2: the head offset one higher. -/
def Placement.count (p : Placement) : Placement := { p with offset := saturate Config.distanceTop (p.offset + 1) }

/-- R154: the creep count one higher. -/
def Placement.creepOn (p : Placement) : Placement := { p with creep := p.creep + 1 }

/-- R151 step 3: the tail has been cleared. -/
def State.tailCleared (s : State) (p : Placement) : Bool := p.tail.isSome && decide (s.option (·.carriageLength) ≤ p.offset)

/-- R153: the head has run past its segment and the overrun margin. -/
def State.tagMissed (s : State) (p : Placement) : Bool :=
  decide ((s.seg p.head).length + s.option (·.overrunMargin) < p.offset)

/-- R154: the creep limit is passed. -/
def State.creptPast (s : State) (p : Placement) : Bool := decide (s.option (·.creepLimit) < p.creep)

/-- R151 step 5: the creep count. -/
def State.creepCount (s : State) : State :=
  match s.pos.place with
  | none => s
  | some p =>
    let s1 := s.setPos { s.pos with place := some p.creepOn }
    if s.creptPast p.creepOn then s1.raiseFault { cause := .creep, first := p.head.val, second := p.creepOn.creep }
    else s1

/-- R151 steps 4 to 6, after the tail release. -/
def State.countTests (s : State) : State :=
  match s.pos.place with
  | none => s
  | some p =>
    if s.tagMissed p then s.raiseFault { cause := .missingTag, first := p.head.val, second := p.offset }
    else if s.rte.state = .moving then s.refreshDuty
    else s.creepCount

/-- R151: a count. -/
def State.count (s : State) : State :=
  match s.pos.place with
  | none => s
  | some p =>
    let s1 := s.setPos { s.pos with place := some p.count }
    if s.pos.fault.isSome then s1
    else if s.tailCleared p.count then s1.releaseTail.countTests
    else s1.countTests

/-- R150, R151: the filtered level rises. -/
def State.odometerRise (s : State) : State :=
  if s.tracking && !s.pos.odometer then (s.setPos { s.pos with odometer := true }).count else s

/-- R150: the filtered level falls; no count. -/
def State.odometerFall (s : State) : State := if s.tracking then s.setPos { s.pos with odometer := false } else s

/-! ## Tags -/

/-- R155: a group of four bits of a tag. -/
def tagGroup (bits : BitVec 16) (at_ : Nat) : Nat := (bits.extractLsb' at_ 4).toNat

/-- R155: the check nibble of a tag's first twelve bits. -/
def tagCheck (bits : BitVec 16) : Nat := 15 - (tagGroup bits 12 + tagGroup bits 8 + tagGroup bits 4) % 16

/-- R155: the from segment. -/
def tagFrom (bits : BitVec 16) : Seg := Fin.ofNat 64 (bits.extractLsb' 10 6).toNat

/-- R155: the to segment. -/
def tagTo (bits : BitVec 16) : Seg := Fin.ofNat 64 (bits.extractLsb' 4 6).toNat

/-- R155: a bad tag. -/
def tagBad (bits : BitVec 16) (stop : Bool) : Bool :=
  !stop || tagGroup bits 0 != tagCheck bits || tagFrom bits == tagTo bits

/-- R156: two segments name a boundary, in either order. -/
def samePair (a b : Seg × Seg) : Bool := a == b || a == (b.2, b.1)

/-- R156: the step after the head step. -/
def State.nextStep (s : State) : Option Step :=
  match s.headNum with
  | some h => s.rte.route.find? fun st => st.num == h + 1
  | none => none

/-- R156, R157: the step the head would enter at a tag that is a match. -/
def State.matched (s : State) (tag : Seg × Seg) : Option Step :=
  match s.head, s.nextStep with
  | some head, some next => if samePair tag (head, next.seg) then some next else none
  | _, _ => none

/-- R108: the final step of the route queue. -/
def Rte.isFinal (r : Rte) (num : Nat) : Bool := (r.route.getLast?).any fun st => st.num == num

/-- R157: the occupancy after a head advance. -/
def Placement.advance (p : Placement) (seg : Seg) : Placement :=
  { head := seg, tail := some p.head, offset := 0, boundary := some (p.head, seg), creep := p.creep }

/-- R157, R158: the head advances into a step. -/
def State.advance (s : State) (next : Step) : State :=
  let s1 := if s.tail.isSome then s.releaseTail else s
  let s2 := s1.setPos { s1.pos with place := s1.pos.place.map fun p => p.advance next.seg }
  s2.settle.postIf (s2.rte.isFinal next.num) (.arriving next.num next.seg)

/-- R156 to R159: a good tag read while the carriage is placed with no fault outstanding. -/
def State.goodTag (s : State) (p : Placement) (tag : Seg × Seg) : State :=
  let fault := fun cause => s.raiseFault { cause := cause, first := tag.1.val, second := tag.2.val }
  if p.boundary.any fun b => samePair tag b then s
  else if s.rte.state = .moving then
    match s.matched tag with
    | some next => if next.committed then s.advance next else fault .overrun
    | none => fault .wrongTag
  else fault .unexpectedTag

/-- R155: a bad tag is counted and posted. -/
def State.badTag (s : State) (bits : BitVec 16) : State :=
  let n := saturate Config.byteTop (s.pos.badTags + 1)
  (s.setPos { s.pos with badTags := n }).post (.tagBad n bits)

/-- R155: a tag character. -/
def State.tagRead (s : State) (start : Bool) (bits : BitVec 16) (stop : Bool) : State :=
  if !s.tracking || start then s
  else if tagBad bits stop then s.badTag bits
  else
    match s.pos.place with
    | some p => if s.pos.fault.isSome then s else s.goodTag p (tagFrom bits, tagTo bits)
    | none => s

end Sys2Proof.Machine
end

