-- ==== Sys2Proof/Machine/Store.lean ====
section
/-! DEFINITION. Reading the option store: its layout (R196), the header, CRC and option checks (R197, R198), the map checks
(R11, R12, R13), and the options and map that a good store installs (R199). -/
namespace Sys2Proof.Machine

open Sys2Proof

/-- The byte at an address; a store that stops driving gives FFh (R195). -/
def storeByte (store : List Byte) (address : Nat) : Nat := (store.getD address 0xFF#8).toNat

/-- A two-byte field, most significant byte first. -/
def storeWord (store : List Byte) (address : Nat) : Nat :=
  256 * storeByte store address + storeByte store (address + 1)

/-- A three-byte field, most significant byte first. -/
def storeTriple (store : List Byte) (address : Nat) : Nat :=
  65536 * storeByte store address + storeWord store (address + 1)

/-- The bytes from an address on. -/
def storeBytes (store : List Byte) (address count : Nat) : List Byte :=
  (List.range count).map fun i => store.getD (address + i) 0xFF#8

/-- R196: the address of an option byte. -/
def optionAt (i : Nat) : Nat := 4 + i

/-- R196: the number of map records, from the header. -/
def storeRecords (store : List Byte) : Nat := storeByte store 2

/-- R197: the header checks. -/
def headerGood (store : List Byte) : Bool :=
  storeByte store 0 == 1 && storeByte store 1 == 32 && decide (2 ≤ storeRecords store) &&
    decide (storeRecords store ≤ 64) && storeByte store 3 == 0

/-- R197: the CRC of the option block. -/
def optionCrcGood (store : List Byte) : Bool :=
  (crcBytes (storeBytes store 4 32)).toNat == storeWord store 36

/-- R10: the fingerprint, the CRC-16 over the map records. -/
def storeFingerprint (store : List Byte) : BitVec 16 :=
  crcBytes (storeBytes store 38 (8 * storeRecords store))

/-- R197: the CRC of the map block. -/
def mapCrcGood (store : List Byte) : Bool :=
  (storeFingerprint store).toNat == storeWord store (38 + 8 * storeRecords store)

/-- R196: the option fields. -/
def storeOptions (store : List Byte) : Options :=
  let field := fun i => storeByte store (optionAt i)
  let pair := fun i => storeWord store (optionAt i)
  let triple := fun i => storeTriple store (optionAt i)
  { station := Fin.ofNat 32 (field 0)
    role := if field 1 = 0 then .carriage else .wayside
    roster := BitVec.ofNat 32 (65536 * pair 2 + pair 4)
    quorum := field 6
    bitRate := field 7
    bpCode := field 8
    carriageLength := pair 9
    claimAhead := field 11
    keepCode := field 12
    lieWait := field 13
    overrunMargin := pair 14
    creepLimit := field 16
    t1 := triple 17
    t2 := triple 20
    t3 := triple 23
    l0 := field 26
    l1 := field 27
    l2 := field 28
    odoFilter := if field 29 = 0 then .short else .long
    staggerCode := field 30
    throwTime := field 31 }

/-- A value in a range, both ends included. -/
def within (low high n : Nat) : Bool := decide (low ≤ n) && decide (n ≤ high)

/-- R198 group 1. -/
def stationGood (store : List Byte) : Bool :=
  let o := storeOptions store
  within 1 30 (storeByte store (optionAt 0)) && decide (storeByte store (optionAt 1) ≤ 1) &&
    !o.roster.getMsbD 0 && !o.roster.getMsbD 31 && stationHas o.roster o.station

/-- R198 group 2: the ranges of R196; the fields of the other role are not checked. -/
def rangesGood (store : List Byte) : Bool :=
  let o := storeOptions store
  decide (o.bitRate ≤ 3) && within 1 20 o.bpCode &&
    match o.role with
    | .carriage =>
      within 1 4095 o.carriageLength && within 1 12 o.claimAhead && within 1 20 o.keepCode && within 1 15 o.lieWait &&
        decide (o.overrunMargin ≤ 4095) && within 1 255 o.creepLimit && decide (storeByte store (optionAt 29) ≤ 1)
    | .wayside => within 1 15 o.staggerCode && within 1 15 o.throwTime

/-- R198 group 3. -/
def quorumGood (o : Options) : Bool :=
  within (stationCount o.roster / 2 + 1) (stationCount o.roster) o.quorum

/-- R198 group 4. -/
def speedGood (o : Options) : Bool :=
  match o.role with
  | .wayside => true
  | .carriage =>
    decide (0 < o.t1) && decide (o.t1 < o.t2) && decide (o.t2 < o.t3) &&
      decide (o.l0 ≤ o.l1) && decide (o.l1 ≤ o.l2) && decide (o.l2 ≤ Config.fullDuty)

/-- A map record as its eight bytes give it, before any check (R196). -/
structure RawRecord where
  kind : Nat
  refuge : Bool
  length : Nat
  link0 : Nat
  link1 : Nat
  link2 : Nat
  owner : Nat
deriving DecidableEq, Repr

/-- R196: record i; a segment with no record reads as ABSENT. -/
def rawRecord (store : List Byte) (seg : Seg) : RawRecord :=
  let at_ := 38 + 8 * seg.val
  if seg.val < storeRecords store then
    { kind := storeByte store at_
      refuge := storeByte store (at_ + 1) % 2 == 1
      length := storeWord store (at_ + 2)
      link0 := storeByte store (at_ + 4)
      link1 := storeByte store (at_ + 5)
      link2 := storeByte store (at_ + 6)
      owner := storeByte store (at_ + 7) }
  else { kind := 0, refuge := false, length := 0, link0 := 255, link1 := 255, link2 := 255, owner := 0 }

/-- R2, R196: how many ends a kind has. -/
def kindEnds (kind : Nat) : Nat :=
  match kind with
  | 1 => 2
  | 2 => 1
  | 3 => 3
  | _ => 0

/-- R196: the link byte of an end the kind has, as a segment and an end number; FFh is unlinked. -/
def RawRecord.link (r : RawRecord) (e : Nat) : Option (Seg × Nat) :=
  if e < kindEnds r.kind then
    let byte := match e with
      | 0 => r.link0
      | 1 => r.link1
      | _ => r.link2
    if byte = 255 then none else some (Fin.ofNat 64 (byte / 4), byte % 4)
  else none

/-- R11 checks 3 to 6 for one end of one segment: the link names a defined other segment, an end its kind has, and is
returned. -/
def linkGood (raw : Seg → RawRecord) (seg : Seg) (e : Nat) : Bool :=
  match (raw seg).link e with
  | none => true
  | some (other, f) =>
    decide (1 ≤ (raw other).kind) && decide (f < kindEnds (raw other).kind) && decide (other ≠ seg) &&
      (raw other).link f == some (seg, e)

/-- R11: the structural checks. -/
def structureGood (raw : Seg → RawRecord) : Bool :=
  allSegs.all (fun seg => decide ((raw seg).kind ≤ 3)) &&
    decide (2 ≤ (allSegs.filter fun seg => decide (1 ≤ (raw seg).kind)).length) &&
    allSegs.all (fun seg => (List.range 3).all (linkGood raw seg)) &&
    allSegs.all (fun seg => !((raw seg).kind == 3 && (raw seg).refuge))

/-- R12: the length checks. -/
def lengthsGood (raw : Seg → RawRecord) (o : Options) : Bool :=
  allSegs.all fun seg =>
    (raw seg).kind == 0 ||
      (decide (0 < (raw seg).length) &&
        match o.role with
        | .carriage => decide (o.carriageLength ≤ (raw seg).length)
        | .wayside => true)

/-- R13: the owner checks. -/
def ownersGood (raw : Seg → RawRecord) (o : Options) : Bool :=
  let turnouts := allSegs.filter fun seg => (raw seg).kind == 3
  turnouts.all (fun seg => within 1 30 (raw seg).owner && stationHas o.roster (Fin.ofNat 32 (raw seg).owner)) &&
    allStations.all (fun k =>
      decide ((turnouts.filter fun seg => (raw seg).owner == k.val).length ≤ Config.ownedMax)) &&
    match o.role with
    | .carriage => turnouts.all fun seg => (raw seg).owner != o.station.val
    | .wayside => true

/-- A checked link as the map holds it. -/
def mapLink (r : RawRecord) (e : Nat) : Option Link :=
  (r.link e).map fun p => { seg := p.1, endNo := Fin.ofNat 3 p.2 }

/-- R1, R196: the segment record a raw record gives. -/
def segRecOf (r : RawRecord) : SegRec :=
  match r.kind with
  | 1 => .plain r.length (mapLink r 0) (mapLink r 1) r.refuge
  | 2 => .pad r.length (mapLink r 0)
  | 3 => .turnout r.length (mapLink r 0) (mapLink r 1) (mapLink r 2) (Fin.ofNat 32 r.owner)
  | _ => .absent

/-- R5: the TURNOUT segments that name a station as owner, ascending. -/
def ownedBy (segs : Vector SegRec 64) (station : Station) : List Seg :=
  allSegs.filter fun seg => segs[seg].owner == some station

/-- The map a store gives to a station (R199), with its fingerprint and owned list. -/
def storeMap (store : List Byte) (station : Station) : TrackMap :=
  let segs := tab fun seg => segRecOf (rawRecord store seg)
  { segs := segs, fingerprint := storeFingerprint store, owned := ownedBy segs station }

/-- R197, R198, R11 to R13: the checks in the order they are made, and what a good store installs. -/
def readStore (store : List Byte) : Except ConfigFault (Options × TrackMap) :=
  let o := storeOptions store
  let raw := rawRecord store
  if !headerGood store then .error .badFormat
  else if !optionCrcGood store then .error .badCrc
  else if !stationGood store then .error .badStation
  else if !rangesGood store then .error .badFormat
  else if !quorumGood o then .error .badQuorum
  else if !speedGood o then .error .badSpeed
  else if !mapCrcGood store then .error .badCrc
  else if !structureGood raw then .error .badMap
  else if !lengthsGood raw o then .error .badLengths
  else if !ownersGood raw o then .error .badOwner
  else .ok (o, storeMap store o.station)

end Sys2Proof.Machine
end

