-- ==== Sys2Proof/Machine/Turnout.lean ====
section
/-! DEFINITION. The turnout controller: records (R163 to R165), detectors (R166, R167), won turnouts (R168, R169), the motor
start queue and throws (R171 to R173), LIE requests (R175), possessions (R129), and its acts at a change report, at a relisten, at
the return to ACTIVE and at DUPLICATE_HALT (R174, R177, R178, R179). -/
namespace Sys2Proof.Machine

open Sys2Proof

/-! ## Records and inputs -/

/-- The records with the record of one segment changed. -/
def Toc.modify (t : Toc) (seg : Seg) (f : Record → Record) : Toc :=
  { t with records := t.records.map fun r => if r.seg = seg then f r else r }

/-- Change the record of one segment. -/
def State.modifyRecord (s : State) (seg : Seg) (f : Record → Record) : State := s.setToc (s.toc.modify seg f)

/-- R163: the field position of an owned segment. -/
def State.position (s : State) (seg : Seg) : Option Position :=
  (List.finRange 4).find? fun p => s.owned[p.val]? == some seg

/-- R163: the filtered inputs of an owned segment. -/
def State.inputsOf (s : State) (seg : Seg) : Inputs :=
  match s.position seg with
  | some p => s.toc.inputs[p]
  | none => .reset

/-- The lock input of a lie. -/
def Inputs.lock (i : Inputs) (p : Points) : Input :=
  match p with
  | .normal => i.normalLock
  | .reverse => i.reverseLock

/-- R163: the filtered lock level of a lie. -/
def State.lockHigh (s : State) (seg : Seg) (p : Points) : Bool := ((s.inputsOf seg).lock p).level

/-- R163: the filtered occupancy level. -/
def State.occupied (s : State) (seg : Seg) : Bool := (s.inputsOf seg).occupancy.level

/-- R164: an input at a level it has held for the settle time. -/
def Input.settledAt (level : Bool) : Input := { level := level, settled := true }

/-- R164, R166: the inputs of a position with one lock level changed. -/
def Inputs.setLock (i : Inputs) (p : Points) (level : Bool) : Inputs :=
  match p with
  | .normal => { i with normalLock := .settledAt level }
  | .reverse => { i with reverseLock := .settledAt level }

/-- R165: the lie state from settled detector levels; FAILED with an unsettled lock detector. -/
def startLie (i : Inputs) : Lie :=
  if !i.normalLock.settled || !i.reverseLock.settled then .failed
  else
    match i.normalLock.level, i.reverseLock.level with
    | true, false => .normal
    | false, true => .reverse
    | false, false => .unknown
    | true, true => .failed

/-- R165: the record of an owned segment at the end of START. -/
def startRecord (seg : Seg) (i : Inputs) : Record :=
  { seg := seg, lie := startLie i, target := none, answer := none, followOn := none, throwTimer := none, motor := .off }

/-! ## The claim table as the controller reads it -/

/-- R167, R174, R178: the answer part that names the holder, with no tag, when the segment is HELD. -/
def State.holderAnswer (s : State) (seg : Seg) : Option Answer :=
  (s.ctu[seg].holder).map fun k => { claimant := k, tag := none }

/-! ## LIE requests (R175) -/

/-- R175: the cause and the answer part that are requested. -/
def lieRequest (cause : LieCause) (answer : Option Answer) : LieCause × Option Answer :=
  match answer with
  | none => (cause, none)
  | some a =>
    if a.tag.isSome || cause = .report then (cause, some a)
    else if cause = .done ∨ cause = .confirmed then (.report, some a)
    else (cause, none)

/-- R175: a LIE request for one record. -/
def State.requestLie (s : State) (seg : Seg) (cause : LieCause) (answer : Option Answer) : State :=
  s.txRequest (.lie seg) (.lie (lieRequest cause answer).1 (lieRequest cause answer).2)

/-- R166: a change of a record's lie state, with its THROW notice. -/
def State.setLie (s : State) (seg : Seg) (lie : Lie) (cause : LieCause) : State :=
  (s.modifyRecord seg fun r => { r with lie := lie }).post (.throwing seg lie cause)

/-- R166: a lie state change with the LIE it requests. -/
def State.reportLie (s : State) (seg : Seg) (lie : Lie) (cause : LieCause) (answer : Option Answer) : State :=
  (s.setLie seg lie (lieRequest cause answer).1).requestLie seg cause answer

/-! ## Throws (R171 to R173) -/

/-- R171: what a turnout takes along into the start queue, and what it loses when it leaves it. -/
def Record.aim (target : Option Points) (answer : Option Answer) (r : Record) : Record :=
  { r with target := target, answer := answer }

/-- R172: the record after the end of a throw: motor off, timer stopped, target and answer part removed. -/
def Record.rest (r : Record) : Record :=
  { r with motor := .off, throwTimer := none, target := none, answer := none }

/-- R172: the end of a throw, without its follow-on. -/
def State.stopThrow (s : State) (r : Record) (lie : Lie) (cause : LieCause) : State :=
  (s.modifyRecord r.seg Record.rest).reportLie r.seg lie cause r.answer

/-- R172: the end the detectors give a throw. -/
def State.throwEnd (s : State) (r : Record) : Option (Lie × LieCause) :=
  match r.target with
  | none => none
  | some p =>
    if s.lockHigh r.seg p && !s.lockHigh r.seg (pointsOther p) then some (pointsLie p, .done)
    else if s.lockHigh r.seg p && s.lockHigh r.seg (pointsOther p) then some (.failed, .detectorConflict)
    else none

/-- R171: the motor output for a target lie. -/
def motorFor : Points → Motor
  | .normal => .driveN
  | .reverse => .driveR

/-- R171: the table shows what a start needs. -/
def State.startHeld (s : State) (r : Record) (target : Points) : Bool :=
  match s.ctu[r.seg].claim with
  | .held h required => h == s.me || (required == some target && r.lie != pointsLie target)
  | .free | .blocked _ => false

/-- R171: the motor starts; the detectors are tested at once (R172). -/
def State.startMotor (s : State) (r : Record) (target : Points) : State :=
  let moving : Record :=
    { r with motor := motorFor target, throwTimer := some (Config.secondMs * s.option (·.throwTime)) }
  let s1 := s.modifyRecord r.seg fun _ => moving
  let s2 := s1.setToc { s1.toc with stagger := some (Config.codeUnit * s.option (·.staggerCode)) }
  let s3 := s2.reportLie r.seg .moving .moving r.answer
  match s3.throwEnd moving with
  | some e => s3.stopThrow moving e.1 e.2
  | none => s3

/-- R171: the turnout leaves the start queue with its target lie and answer part. -/
def State.leaveQueue (s : State) (seg : Seg) : State :=
  let s1 := s.modifyRecord seg (Record.aim none none)
  s1.setToc { s1.toc with queue := s1.toc.queue.filter (· != seg) }

/-- R171: the start checks, oldest first, until a motor starts or the queue is empty. -/
def State.startChecks (s : State) : List Seg → State
  | [] => s
  | seg :: rest =>
    match s.toc.record seg with
    | some r =>
      match r.target with
      | some target =>
        if s.occupied seg then
          ((s.leaveQueue seg).requestLie seg .refusedOccupied r.answer).startChecks rest
        else if s.startHeld r target then
          let s1 := s.setToc { s.toc with queue := s.toc.queue.filter (· != seg) }
          s1.startMotor r target
        else (s.leaveQueue seg).startChecks rest
      | none => (s.leaveQueue seg).startChecks rest
    | none => (s.leaveQueue seg).startChecks rest

/-- R171: the start check, when the stagger timer is not running. -/
def State.pump (s : State) : State := if s.toc.stagger.isSome then s else s.startChecks s.toc.queue

/-- R171: a turnout joins the motor start queue. -/
def State.joinQueue (s : State) (seg : Seg) (target : Points) (answer : Option Answer) : State :=
  let s1 := s.modifyRecord seg (Record.aim (some target) answer)
  (s1.setToc { s1.toc with queue := s1.toc.queue ++ [seg] }).pump

/-- R169: a won turnout that is MOVING. -/
def Record.wonMoving (target : Points) (answer : Answer) (r : Record) : Record :=
  if r.target = some target then { r with answer := some answer }
  else { r with followOn := some { target := target, answer := answer } }

/-- R168: a won turnout. -/
def State.wonTurnout (s : State) (seg : Seg) (required : Option Points) (answer : Answer) : State :=
  match required with
  | none => s.requestLie seg .confirmed (some answer)
  | some p =>
    if s.toc.lieOf seg = pointsLie p then s.requestLie seg .confirmed (some answer)
    else if s.toc.lieOf seg = .moving then s.modifyRecord seg (Record.wonMoving p answer)
    else if s.occupied seg then s.requestLie seg .refusedOccupied (some answer)
    else s.joinQueue seg p (some answer)

/-- R169: the follow-on's claim still stands. -/
def State.followStands (s : State) (seg : Seg) (f : FollowOn) : Bool :=
  s.ctu[seg].claim == .held f.answer.claimant (some f.target)

/-- R169, R172: the end of a throw, and then its follow-on. -/
def State.endThrow (s : State) (r : Record) (lie : Lie) (cause : LieCause) : State :=
  let s1 := s.stopThrow r lie cause
  match r.followOn with
  | none => s1
  | some f =>
    let s2 := s1.modifyRecord r.seg fun r => { r with followOn := none }
    if s2.followStands r.seg f then s2.wonTurnout r.seg (some f.target) f.answer else s2

/-! ## Detector levels (R166, R167, R172) -/

/-- R166: a locked turnout tested against its detectors. -/
def State.testLocked (s : State) (r : Record) (p : Points) : State :=
  if !s.lockHigh r.seg p then s.reportLie r.seg .failed .lockLost none
  else if s.lockHigh r.seg (pointsOther p) then s.reportLie r.seg .failed .detectorConflict none
  else s

/-- R167: a turnout in UNKNOWN or FAILED tested against its detectors. -/
def State.testLost (s : State) (r : Record) : State :=
  match s.lockHigh r.seg .normal, s.lockHigh r.seg .reverse with
  | true, false => s.reportLie r.seg .normal .report (s.holderAnswer r.seg)
  | false, true => s.reportLie r.seg .reverse .report (s.holderAnswer r.seg)
  | _, _ => s

/-- R166, R167, R172: a record after a change of a detector level. -/
def State.testDetectors (s : State) (r : Record) : State :=
  match r.lie with
  | .normal => s.testLocked r .normal
  | .reverse => s.testLocked r .reverse
  | .unknown | .failed => s.testLost r
  | .moving =>
    match s.throwEnd r with
    | some e => s.endThrow r e.1 e.2
    | none => s

/-! ## Occupancy (R173, R176) -/

/-- R176: a GUARD is requested at a rise. -/
def State.guards (s : State) (seg : Seg) (level : Bool) : Bool := level && s.online && s.ctu[seg].isFree

/-- R173, R176: a rise of the occupancy level on a throw or on a queued turnout. -/
def State.occupancyRise (s : State) (r : Record) : State :=
  if r.lie = .moving then s.endThrow r .failed .occupiedDuringThrow
  else if s.toc.queue.contains r.seg then (s.leaveQueue r.seg).requestLie r.seg .refusedOccupied r.answer
  else s

/-- R176: a change of an owned turnout's occupancy level. -/
def State.occupancyEvent (s : State) (r : Record) (level : Bool) : State :=
  let s1 := s.post (.occupancy r.seg level (s.guards r.seg level))
  let s2 := if s.guards r.seg level then s1.txRequest .guard (.segs (segOne r.seg)) else s1
  if level then s2.occupancyRise r else s2

/-! ## Change reports (R129, R168, R174) -/

/-- R168: the won turnouts of a report, in owned-list order, with their required lies. -/
def wonTurnouts (owned : List Seg) (r : Report) : List BundleEntry :=
  match r.outcome, r.content with
  | some .win, .claim _ bundle | some .win, .reclaim _ bundle =>
    owned.filterMap fun seg => bundle.find? fun e => e.seg == seg
  | _, _ => []

/-- R168: the tag of a claim-type frame. -/
def reportTag (r : Report) : Option Tag :=
  match r.content with
  | .claim tag _ | .reclaim tag _ => some tag
  | _ => none

/-- R168: every won turnout of a report. -/
def State.answerWins (s : State) (r : Report) : State :=
  (wonTurnouts s.owned r).foldl
    (fun s e => s.wonTurnout e.seg e.required { claimant := r.sender, tag := reportTag r }) s

/-- R174: queued turnouts whose segment is no longer HELD leave the queue. -/
def State.dropQueued (s : State) (r : Report) : State :=
  (s.toc.queue.filter fun seg => (r.changes.any fun c => c.seg == seg) && !s.ctu[seg].isHeld).foldl State.leaveQueue s

/-- R174: the LIE REPORT of an owned turnout that is locked, after this station's own lapse. -/
def State.reportLocked (s : State) (seg : Seg) : State :=
  if s.toc.lieOf seg = .normal ∨ s.toc.lieOf seg = .reverse then s.requestLie seg .report (s.holderAnswer seg) else s

/-- R129, R174: a taken LAPSE names this station. -/
def Report.lapses (r : Report) (k : Station) : Bool :=
  match r.content with
  | .lapse set => stationHas set k
  | _ => false

/-- R129: the number of segments a report takes from a station. -/
def Report.lossCount (r : Report) (k : Station) : Nat := (r.changes.filter fun c => c.loses k).length

/-- R129, R130: the outcome of the possession claim. A withdrawn claim that wins has its segments released; one that loses
posts nothing (R125). -/
def State.possessionOutcome (s : State) (r : Report) (withdrawn : Bool) : State :=
  let bundle :=
    match r.content with
    | .claim _ bundle | .reclaim _ bundle => bundle
    | _ => []
  let s1 := s.setToc { s.toc with claiming := false }
  match r.outcome with
  | some .win =>
    let s2 := s1.post (.possessionWon bundle.length)
    if withdrawn then s2.requestRelease (bundle.map (·.seg)) else s2
  | some (.loss cause) =>
    if withdrawn then s1 else s1.post (.possessionLost (((bundle.head?).map (·.seg)).getD 0) cause)
  | none => s1

/-- R79, R129: what the queue tells of the possession claim. -/
def State.possessionTold (s : State) (r : Report) (told : Option ClaimTold) : State :=
  match told with
  | some (.taken withdrawn) => s.possessionOutcome r withdrawn
  | some .discarded => s.setToc { s.toc with claiming := false }
  | none => s

/-- R129: possessions that end by this station's RELEASE or by a LAPSE naming it. -/
def State.possessionEnds (s : State) (r : Report) : State :=
  if r.lapses s.me then s.post (.possessionOver .blocked (r.lossCount s.me))
  else
    match r.content with
    | .release _ => s.postIf (decide (0 < r.lossCount s.me)) (.possessionOver .released (r.lossCount s.me))
    | _ => s

/-- R129, R168, R174: the controller acts on a change report. The order of these acts, and that the REPORTs of several locked turnouts after an own lapse
are requested in owned-list order, are the model's choice (log entry 20). -/
def State.turnoutReport (s : State) (r : Report) (told : Option ClaimTold) : State :=
  let s1 := ((s.possessionTold r told).answerWins r).dropQueued r
  let s2 := s1.possessionEnds r
  if r.lapses s.me then s2.owned.foldl State.reportLocked s2 else s2

/-- R79: the controller is told of an outcome that is no verdict TAKEN. -/
def State.turnoutTold (s : State) (told : Option ClaimTold) : State :=
  if told = some .discarded then s.setToc { s.toc with claiming := false } else s

/-! ## Relisten, return and halt (R177 to R179) -/

/-- R177, R179: a record at a relisten or at DUPLICATE_HALT: a running throw keeps its target and answer part. -/
def Record.emptied (r : Record) : Record :=
  if r.lie = .moving then { r with followOn := none } else { r with followOn := none, target := none, answer := none }

/-- R177, R179: the start queue emptied, the follow-ons removed; no possession claim is outstanding (R129). -/
def Toc.emptied (t : Toc) : Toc := { t with records := t.records.map Record.emptied, queue := [], claiming := false }

/-- R129, R177: the controller at a relisten, with the number of segments held before the table was cleared. -/
def State.turnoutRelisten (s : State) (held : Nat) : State :=
  (s.setToc s.toc.emptied).postIf (decide (0 < held)) (.possessionOver .ended held)

/-- R178: a HELD turnout at the return to ACTIVE joins the start queue, or is treated by R169 while it is MOVING. -/
def State.returnThrow (s : State) (seg : Seg) (answer : Answer) (target : Points) : State :=
  if s.toc.lieOf seg = .moving then s.modifyRecord seg (Record.wonMoving target answer)
  else if s.toc.lieOf seg = pointsLie target || s.occupied seg || s.toc.queue.contains seg then s
  else s.joinQueue seg target (some answer)

/-- R178: one owned turnout at the return to ACTIVE. A turnout that is MOVING and HELD with required lie NONE gets the REPORT alone,
and its throw keeps its answer part: the model's choice (log entry 27). -/
def State.returnTurnout (s : State) (seg : Seg) : State :=
  match s.ctu[seg].claim with
  | .held h required =>
    let answer : Answer := { claimant := h, tag := none }
    let s1 := s.requestLie seg .report (some answer)
    match required with
    | some target => s1.returnThrow seg answer target
    | none => s1
  | .free | .blocked _ => s

/-- R178: the controller at the entry to ACTIVE. -/
def State.turnoutReturn (s : State) : State := s.owned.foldl State.returnTurnout s

end Sys2Proof.Machine
end

