-- ==== Sys2Proof/Machine/Membership.lean ====
section
/-! DEFINITION. The membership unit: changes of station state (R82 to R105), the peer table (R98 to R103), foreign sightings
(R91), listening (R85 to R90), and the entry to the states from START (R165, R199, R200). -/
namespace Sys2Proof.Machine

open Sys2Proof

/-! ## Records -/

/-- Replace one peer record. -/
def State.setPeer (s : State) (k : Station) (p : Peer) : State := s.setMbu { s.mbu with peers := tabSet s.mbu.peers k p }

/-- R98: the time of a remote lease, in ms. -/
def State.remoteLease (s : State) : Nat := Config.remoteLeaseBP * s.bp

/-- R85: the listen state at each entry to LISTEN and at each retry. -/
def State.listenStart (s : State) : Listen :=
  { timer := some (Config.listenBP * s.bp), limit := Config.listenLimitBP * s.bp, served := false, heard := false, agreed := false }

/-- R82, R84: a change of station state, with its LINK notice. -/
def State.enter (s : State) (state : StationState) (cause : ChangeCause) : State :=
  (s.setMbu { s.mbu with station := state, cause := cause }).post (.link state cause)

/-- R98: a record at a relisten: this station's own keeps its role. -/
def peerAfterRelisten (me : Station) (k : Station) (p : Peer) : Peer :=
  if k = me then { Peer.reset with role := p.role } else .reset

/-! ## Relisten and halt (R96, R97) -/

/-- R62: the line unit's counts at 0 with no identity. -/
def Liu.clearCounts (l : Liu) : Liu := { l with vetoRun := 0, rejections := 0, counted := none }

/-- R39: this station no longer participates in the frame on the line. -/
def Liu.dropOut (l : Liu) : Liu := { l with line := l.line.map fun f => { f with participating := false } }

/-- R96: the membership unit at a relisten. -/
def State.relistenMbu (s : State) : Mbu :=
  { s.mbu with
    listen := some s.listenStart, ownLease := none, beacon := none
    peers := tab fun k => peerAfterRelisten s.me k s.mbu.peers[k], lastConflict := 0 }

/-- R105: the route engine or the turnout controller is told of a relisten. -/
def State.tellRelisten (s : State) (held : Nat) : State :=
  match s.role with
  | some .carriage => s.routeRelisten
  | some .wayside => s.turnoutRelisten held
  | none => s

/-- R95, R96: a relisten; a cause that reaches a station outside ANNOUNCE and ACTIVE does nothing. -/
def State.relisten (s : State) (cause : ChangeCause) : State :=
  if s.online then
    let held := holdCount s.ctu s.me
    let s1 := s.enter .listen cause
    let s2 := s1.setCtu (clearTable s1.opr.map)
    let s3 := s2.setMbu s2.relistenMbu
    let s4 := (s3.setTxq s3.txq.emptied).setLiu s3.liu.clearCounts.dropOut
    s4.tellRelisten held
  else s

/-- R94: the own lease is this station's law for ACTIVE; its expiry relistens. -/
def State.relistenIf (s : State) (b : Bool) (cause : ChangeCause) : State := if b then s.relisten cause else s

/-- R105: the route engine or the turnout controller is told of the entry to DUPLICATE_HALT. -/
def State.tellHalt (s : State) : State :=
  match s.role with
  | some .carriage => s.routeFreeze
  | some .wayside => s.setToc s.toc.emptied
  | none => s

/-- R97: the membership unit at the entry to DUPLICATE_HALT: every timer stops, the records keep the rest. A sighting of the taken frame that is the
duplicate is dropped, with no flag set and no MAP_CONFLICT: the model's choice (log entry 33). -/
def Mbu.halted (m : Mbu) : Mbu :=
  { m with
    listen := none, ownLease := none, beacon := none, sighting := none
    peers := tab fun k => { m.peers[k] with lease := none } }

/-- R62: the line unit OFF. -/
def Liu.off (l : Liu) : Liu := { l.clearCounts with phase := .off, recessive := 0, line := none }

/-- R97: DUPLICATE_HALT. -/
def State.duplicateHalt (s : State) : State :=
  let s1 := s.enter .duplicateHalt .duplicate
  let s2 := s1.setCtu (clearTable s1.opr.map)
  let s3 := s2.setMbu s2.mbu.halted
  let s4 := (s3.setTxq s3.txq.emptied).setLiu s3.liu.off
  s4.tellHalt

/-! ## Announcing and the entry to ACTIVE (R92, R93) -/

/-- R102: a LAPSE request for one peer. -/
def State.requestLapse (s : State) (k : Station) : State := s.txRequest .lapse (.stations (stationOne k))

/-- R92, R102: LAPSE of every peer that is LAPSING. -/
def State.requestLapses (s : State) : State :=
  (allStations.filter fun k => s.mbu.peers[k].presence == .lapsing).foldl State.requestLapse s

/-- R92: the entry to ANNOUNCE. -/
def State.announce (s : State) : State :=
  let s1 := s.enter .announce .listenDone
  let s2 := s1.setMbu { s1.mbu with listen := none, beacon := some s1.bp }
  (s2.txRequest .beacon .beacon).requestLapses

/-- R105: the route engine or the turnout controller is told of the entry to ACTIVE. -/
def State.tellActive (s : State) : State :=
  match s.role with
  | some .carriage => s.routeReturn
  | some .wayside => s.turnoutReturn
  | none => s

/-- R94: the own lease starts anew. -/
def State.startOwnLease (s : State) : State := s.setMbu { s.mbu with ownLease := some (Config.ownLeaseBP * s.bp) }

/-- R93: the entry to ACTIVE. -/
def State.activate (s : State) : State := ((s.enter .active .announceTaken).startOwnLease).tellActive

/-! ## Peers (R99 to R101, R103) -/

/-- R99: a record of a station seen. -/
def State.seenPeer (s : State) (p : Peer) : Peer :=
  { p with presence := .present, lease := some s.remoteLease, foreign := false }

/-- R99: one station is seen. -/
def State.see (s : State) (k : Station) : State :=
  (s.setPeer k (s.seenPeer s.mbu.peers[k])).postIf (s.mbu.peers[k].presence != .present) (.peer k .present)

/-- R99: the stations a taken frame shows: the tally set and the sender, of the roster, without this station. -/
def State.seenSet (s : State) (tally : StationSet) (sender : Station) : List Station :=
  (stationList ((tally ||| stationOne sender) &&& s.roster)).filter (· != s.me)

/-- R101: one station of a taken LAPSE. -/
def State.lapse (s : State) (k : Station) : State :=
  if k = s.me then s.post (.peer k .lapsed)
  else
    (s.setPeer k { s.mbu.peers[k] with presence := .lapsed, lease := none }).postIf
      (s.mbu.peers[k].presence != .lapsed) (.peer k .lapsed)

/-- R103: the role of a beacon's sender is recorded. -/
def State.recordRole (s : State) (sender : Station) (role : Role) : State :=
  s.setPeer sender { s.mbu.peers[sender] with role := some role }

/-- R101, R103: what the content of a taken frame does to the peer table, after the stations were seen. -/
def State.peerContent (s : State) (sender : Station) : Payload → State
  | .beacon _ role _ _ _ => s.recordRole sender role
  | .lapse set => (stationList set).foldl State.lapse s
  | .claim _ _ | .reclaim _ _ | .release _ | .clear _ | .guard _ | .lie _ _ _ _ => s

/-! ## Foreign sightings (R91) -/

/-- R91: MAP_CONFLICT posted, and its sender kept. -/
def State.mapConflict (s : State) (sender : Station) : State :=
  (s.setMbu { s.mbu with lastConflict := sender }).post (.mapConflict sender)

/-- R91: the sighting of a rejected or spoiled frame. A frame under this station's own number is no exception here, though R60 says that a rejected one
changes nothing at this station: the model's choice (log entry 34). -/
def State.sightingLost (s : State) : State :=
  match s.mbu.sighting with
  | none => s
  | some k =>
    let s1 := s.setMbu { s.mbu with sighting := none }
    if k = s.mbu.lastConflict then s1 else s1.mapConflict k

/-- R91: the sighting of a taken frame; the record is compared as it stood before the frame (log entry 14). -/
def State.sightingTaken (s : State) (before : Vector Peer 32) : State :=
  match s.mbu.sighting with
  | none => s
  | some k =>
    let s1 := s.setMbu { s.mbu with sighting := none }
    if 1 ≤ k.val ∧ k.val ≤ 30 then
      let s2 := s1.setPeer k { s1.mbu.peers[k] with foreign := true }
      if before[k].foreign then s2 else s2.mapConflict k
    else s1

/-! ## Listening (R85 to R90) -/

/-- Change the listen state. -/
def State.setListen (s : State) (f : Listen → Listen) : State := s.setMbu { s.mbu with listen := s.mbu.listen.map f }

/-- R88: a miss. -/
def State.miss (s : State) : State :=
  s.setListen fun l => { l with timer := some (Config.listenBP * s.bp), served := false, heard := false, agreed := false }

/-- R89: the completion test passes. -/
def Listen.complete (l : Listen) : Bool := l.served && (!l.heard || l.agreed)

/-- R89: the completion test. -/
def State.completionTest (s : State) : State := if s.mbu.listen.any Listen.complete then s.announce else s

/-- R86, R87: a taken GOOD frame is compared and learned. -/
def State.learn (s : State) (f : Frame) (p : Payload) : State :=
  let s1 := s.setListen fun l => { l with heard := true, agreed := f.digest == digest s.ctu }
  s1.setCtu (learnPayload s1.opr.map s1.ctu (frameStation f) p)

/-- R90: the retry at the listen limit. -/
def State.retry (s : State) : State :=
  let n := saturate Config.byteTop (s.mbu.joinCount + 1)
  let s1 := s.setCtu (clearTable s.opr.map)
  (s1.setMbu { s1.mbu with
    joinCount := n, cause := .listenLimit, listen := some s1.listenStart, lastConflict := 0 }).post (.joinRetry n)

/-! ## Leaving START (R83, R165, R199, R200) -/

/-- R200: CONFIG_FAULT. -/
def State.configFault (s : State) (fault : ConfigFault) : State :=
  (s.setOpr { s.opr with reading := false, fault := some fault }).enter .configFault .config

/-- R165: the records made from the settled levels. -/
def State.makeRecords (s : State) : List Record := s.owned.map fun seg => startRecord seg (s.inputsOf seg)

/-- R165, R171: the turnout controller at the end of a START with a good store. -/
def State.startToc (s : State) : Toc :=
  { s.toc with
    records := s.makeRecords
    stagger := if s.isWayside then some (Config.codeUnit * s.option (·.staggerCode)) else none
    settleLimit := none }

/-- R62: the line unit switched on: SEEK, count 0. -/
def Liu.seek (l : Liu) (recessive : Nat) : Liu := { l with phase := .seek, recessive := recessive, line := none }

/-- R83, R98, R199: the station leaves START for LISTEN. -/
def State.leaveStart (s : State) : State :=
  let s1 := s.setToc s.startToc
  let s2 := s1.setPeer s1.me { s1.mbu.peers[s1.me] with role := s1.role }
  let s3 := (s2.setLiu (s2.liu.seek 0)).setMbu { s2.mbu with listen := some s2.listenStart }
  s3.enter .listen .startDone

/-- R199: options and map installed together; the claim table shows UNKNOWN on every TURNOUT (R16). -/
def State.install (s : State) (o : Options) (m : TrackMap) : State :=
  let s1 := s.setOpr { s.opr with reading := false, failures := 0, options := some o, map := some m }
  s1.setCtu (clearTable (some m))

/-- R83: the settle has ended, or nothing is to settle. -/
def State.settleOver (s : State) : Bool := s.isCarriage || s.toc.settled || s.owned.isEmpty

/-- R83, R164: START ends when the read and, on a wayside, the settle have ended; else the settle limit runs. -/
def State.tryLeaveStart (s : State) : State :=
  if s.settleOver then s.leaveStart else s.setToc { s.toc with settleLimit := some Config.settleLimit }

/-- R150: the first settling of the odometer level on a CARRIAGE. -/
def State.settleOdometer (s : State) (level : Bool) : State :=
  if s.isCarriage then s.setPos { s.pos with odometer := level } else s

/-- R195 to R200: the end of the option read. -/
def State.endRead (s : State) (store : List Byte) (odo : Bool) : State :=
  match readStore store with
  | .error fault => s.configFault fault
  | .ok (o, m) => ((s.install o m).settleOdometer odo).tryLeaveStart

/-- R164: the settled levels of a position. -/
def inputsOfLevels (l : Levels) : Inputs :=
  { normalLock := .settledAt l.normalLock, reverseLock := .settledAt l.reverseLock, occupancy := .settledAt l.occupied }

/-- R164: an input at the settle limit; one that has not settled takes a level that is safe. -/
def inputAtLimit (level : Option Bool) (unsettled : Bool) : Input :=
  match level with
  | some b => .settledAt b
  | none => { level := unsettled, settled := false }

/-- R164: the inputs of a position at the settle limit. -/
def inputsAtLimit (l : PartLevels) : Inputs :=
  { normalLock := inputAtLimit l.normalLock false, reverseLock := inputAtLimit l.reverseLock false
    occupancy := inputAtLimit l.occupied true }

/-- R164: the settle ends with these inputs; START ends when a good option read has ended. -/
def State.endSettle (s : State) (inputs : Vector Inputs 4) : State :=
  let s1 := s.setToc { s.toc with inputs := inputs, settled := true, settleLimit := none }
  if s1.isWayside then s1.leaveStart else s1

end Sys2Proof.Machine
end

