-- ==== Sys2Proof/Machine/Line.lean ====
section
/-! DEFINITION. The line unit's events, from the idle gap to the verdict REJECTED (R41 to R62). -/
namespace Sys2Proof.Machine

open Sys2Proof

/-! ## Shared steps -/

/-- Change the frame on the line. -/
def State.setLine (s : State) (phase : Phase) (line : Option LineFrame) : State :=
  s.setLiu { s.liu with phase := phase, line := line }

/-- R41, R61: the line unit seeks the idle gap; no frame is on the line. -/
def State.seekIdle (s : State) (recessive : Nat) : State := s.setLiu (s.liu.seek recessive)

/-- R39, R42, R76: this station's frame begins at a start bit. -/
def State.startSend (s : State) (e : TxEntry) : State :=
  let own := s.ownFrame e
  let s1 := s.setTxq (s.txq.replace e.key (some e.launch))
  s1.setLine .send (some { participating := true, own := some own, received := none, veto := none })

/-- R39, R42: another station's frame begins at a start bit. -/
def State.startReceive (s : State) : State :=
  s.setLine .receive (some { participating := s.online, own := none, received := none, veto := none })

/-- R58: the veto-run count one higher; at the limit the station relistens. -/
def State.countVeto (s : State) : State :=
  let n := s.liu.vetoRun + 1
  (s.setLiu { s.liu with vetoRun := n }).relistenIf (decide (Config.vetoRunLimit ≤ n)) .vetoRun

/-- R59: the rejection count restarts at 0 for an entry other than the one counted; a RECLAIM after a counted CLAIM is another (log entry 31). -/
def Liu.countFor (l : Liu) (id : SendId) : Liu :=
  if l.counted = some id then l else { l with counted := some id, rejections := 0 }

/-- R59: the rejection count one higher; at the limit the station relistens. -/
def State.countRejection (s : State) : State :=
  let n := s.liu.rejections + 1
  (s.setLiu { s.liu with rejections := n }).relistenIf (decide (Config.rejectionLimit ≤ n)) .rejectionLimit

/-- R77, R79: the route engine or the turnout controller is told of an outcome that is no verdict TAKEN. -/
def State.tellRequester (s : State) (told : Option ClaimTold) : State :=
  match s.role with
  | some .carriage => s.routeTold told
  | some .wayside => s.turnoutTold told
  | none => s

/-- R57, R77: the outcome of this station's frame, when no verdict TAKEN gives it. -/
def State.sendOver (s : State) (o : SendOutcome) : State :=
  (s.setTxq (s.txq.outcome o).1).tellRequester (s.txq.outcome o).2

/-! ## The idle gap and the start bit -/

/-- LINE_IDLE (R41): twelve recessive bit times. -/
def execLineIdle (s : State) : Host.Outcome State Fault Refusal :=
  live (fun s =>
    if s.liu.phase = .seek then s.setLiu { s.liu with phase := .idle, recessive := Config.idleGap } else s) s

/-- TRANSMIT_START (R42, R75, R76): the own start bit, at an idle line with a choice. -/
def execTransmitStart (s : State) : Host.Outcome State Fault Refusal :=
  live (fun s =>
    match s.choice with
    | some e => if s.liu.phase = .idle then s.startSend e else s
    | none => s) s

/-- FRAME_START_RECEIVED (R41, R42): another station's start bit; an idle station with a choice takes it as its own. -/
def execFrameStartReceived (s : State) : Host.Outcome State Fault Refusal :=
  live (fun s =>
    match s.liu.phase with
    | .idle =>
      match s.choice with
      | some e => s.startSend e
      | none => s.startReceive
    | .seek => s.startReceive
    | .off | .send | .receive | .breaking | .slots => s) s

/-! ## The stuffed part -/

/-- R46: arbitration lost: NOT SENT, and the frame is received from this bit on. -/
def State.loseArbitration (s : State) : State :=
  (s.setLine .receive (s.liu.line.map fun f => { f with own := none })).sendOver .notSent

/-- R51: the frame on the line has been classified: it stands at the stuff bit that may follow its CRC, or in its slots. -/
def Liu.classified (l : Liu) : Bool := l.line.any (·.received.isSome)

/-- ARBITRATION_LOST (R46); a frame at the end of its CRC is past arbitration. -/
def execArbitrationLost (s : State) : Host.Outcome State Fault Refusal :=
  live (fun s => if s.liu.phase = .send && !s.liu.classified then s.loseArbitration else s) s

/-- R47: the frame after this station's clash: received without driving. -/
def LineFrame.afterClash (f : LineFrame) : LineFrame := { f with participating := false, own := none }

/-- R59: the counts at a clash: a frame that has passed arbitration has made its entry the one counted (log entry 12). -/
def Liu.countClash (l : Liu) (arbitrated : Bool) (id : SendId) : Liu := if arbitrated then l.countFor id else l

/-- R47, R59: a clash: REJECTED for the entry in flight; the rejection count rises by one. At the sixteenth the queue acts on its outcome, and the
requester is told of it, before the station relistens: the model's choice (log entry 32). -/
def State.clashSend (s : State) (arbitrated : Bool) : State :=
  let s1 := s.setLine .receive (s.liu.line.map LineFrame.afterClash)
  match s.txq.flying with
  | some e => ((s1.setLiu (s1.liu.countClash arbitrated e.identity)).sendOver .rejected).countRejection
  | none => s1

/-- CLASH (R47), anywhere in SEND (R61). So a sender still compares the stuff bit that may follow its last CRC bit, which R47 leaves open: the
model's choice (log entry 30). -/
def execClash (s : State) (arbitrated : Bool := true) : Host.Outcome State Fault Refusal :=
  live (fun s => if s.liu.phase = .send then s.clashSend arbitrated else s) s

/-- R48, R49: a stuff error: a break when participating; else the frame is given up, and counted on from the run (R41). A sighting
held for a frame given up at the stuff bit after its CRC is resolved as that of a spoiled frame: the model's choice (log entry 16). -/
def State.stuffError (s : State) (recessive : Bool) : State :=
  if s.liu.line.any (·.participating) then s.setLiu { s.liu with phase := .breaking, breakOnRecessive := recessive }
  else (s.seekIdle (if recessive then Config.stuffRun else 0)).sightingLost

/-- STUFF_ERROR (R48), anywhere in RECEIVE (R61): at the stuff bit that may follow the last CRC bit too, which is the model's choice
(log entry 11). -/
def execStuffError (recessive : Bool) (s : State) : Host.Outcome State Fault Refusal :=
  live (fun s => if s.liu.phase = .receive then s.stuffError recessive else s) s

/-- R49, R58: the end of a break: the frame is spoiled; a break on a recessive run counts. A sighting ends with its frame before
the count is raised, so that MAP_CONFLICT comes before the LINK of a relisten: the model's choice (log entry 10). -/
def State.endBreak (s : State) : State :=
  let counts := s.liu.breakOnRecessive && s.liu.line.any (·.participating)
  let s1 := (s.seekIdle 0).sightingLost
  if counts then s1.countVeto else s1

/-- BREAK_END (R48, R49, R58). -/
def execBreakEnd (s : State) : Host.Outcome State Fault Refusal :=
  live (fun s => if s.liu.phase = .breaking then s.endBreak else s) s

/-! ## Classification -/

/-- R51: the sender classifies its own frame GOOD. -/
def OwnFrame.received (o : OwnFrame) : Received := { frame := o.frame, cls := .good, content := some o.payload }

/-- R51: a received frame with its class and content. -/
def State.classify (s : State) (f : Frame) : Received :=
  { frame := f, cls := s.classOf f, content := frameContent s.opr.map s.roster f }

/-- R61: the phase at the end of the CRC: SLOTS, or as it was for the stuff bit that follows the last CRC bit (R44). -/
def Phase.afterCrc (phase : Phase) (f : Frame) : Phase := if stuffBitFollows f then phase else .slots

/-- R51, R59: the sender's frame has passed to the end of its CRC. -/
def State.classifyOwn (s : State) (line : LineFrame) (own : OwnFrame) : State :=
  let s1 := s.setLine (s.liu.phase.afterCrc own.frame) (some { line with received := some own.received })
  if line.participating then s1.setLiu (s1.liu.countFor own.identity) else s1

/-- R51, R58, R91: a received frame at the end of its CRC. -/
def State.classifyOther (s : State) (line : LineFrame) (f : Frame) : State :=
  let r := s.classify f
  let s1 := s.setLine (s.liu.phase.afterCrc f) (some { line with received := some r })
  match r.cls with
  | .good => if line.participating then s1.setLiu { s1.liu with vetoRun := 0 } else s1
  | .foreign => s1.setMbu { s1.mbu with sighting := some (frameStation f) }
  | .faulty => s1

/-- FRAME_CLASSIFY (R51), once for a frame. -/
def execFrameClassify (frame : Frame) (s : State) : Host.Outcome State Fault Refusal :=
  live (fun s =>
    match s.liu.line with
    | none => s
    | some line =>
      match s.liu.phase, line.own, line.received with
      | .send, some own, none => s.classifyOwn line own
      | .receive, _, none => s.classifyOther line frame
      | _, _, _ => s) s

/-! ## The slots -/

/-- R52, R61: the veto slot comes next: the frame is classified, and the line unit is in SLOTS, or in SEND or RECEIVE for the stuff bit after the
CRC. No row tells the end of that bit: SLOTS is entered with the reading of the veto slot (log entry 11). -/
def Liu.vetoNext (l : Liu) (line : LineFrame) : Bool :=
  line.received.isSome && line.veto.isNone && (l.phase == .slots || l.phase == .send || l.phase == .receive)

/-- R52, R55, R58: the veto slot is read; a station that vetoed counts it, or has failed to drive it. -/
def State.readVeto (s : State) (line : LineFrame) (dominant : Bool) : State :=
  let s1 := s.setLine .slots (some { line with veto := some dominant })
  if line.vetoes then
    if dominant then s1.countVeto else s1.relisten .driveFailure
  else s1

/-- VETO_SLOT_END (R52). -/
def execVetoSlotEnd (dominant : Bool) (s : State) : Host.Outcome State Fault Refusal :=
  live (fun s =>
    match s.liu.line with
    | none => s
    | some line => if s.liu.vetoNext line then s.readVeto line dominant else s) s

/-- DRIVE_FAILURE (R55): a driven veto, or the driven tally slot, reads recessive. -/
def execDriveFailure (s : State) : Host.Outcome State Fault Refusal :=
  live (fun s =>
    match s.liu.line with
    | none => s
    | some line =>
      if s.liu.vetoNext line && line.vetoes then s.readVeto line false
      else if s.liu.phase = .slots && line.tallies then s.relisten .driveFailure
      else s) s

/-- R53: the tally set: the roster stations 1 to 30 whose slot read dominant. -/
def State.tallySet (s : State) (slots : StationSet) : StationSet := slots &&& s.roster

/-- R54: the tally set holds at least QUORUM stations. -/
def State.quorate (s : State) (slots : StationSet) : Bool := decide (s.option (·.quorum) ≤ stationCount (s.tallySet slots))

/-- R54: the verdict REJECTED. -/
def State.rejects (s : State) (line : LineFrame) (slots : StationSet) : Bool :=
  line.veto == some true || (line.veto == some false && !s.quorate slots)

/-- R57, R59, R91: the verdict REJECTED. At the sixteenth counted one the outcome at the queue comes before the relisten: the model's choice
(log entry 32). -/
def State.rejectFrame (s : State) (line : LineFrame) : State :=
  let s1 := (s.seekIdle 0).sightingLost
  if line.own.isSome && s.txq.flying.isSome then
    let s2 := s1.sendOver .rejected
    if line.veto = some true then s2.countRejection else s2
  else s1

/-- FRAME_REJECTED (R54). -/
def execFrameRejected (slots : StationSet) (s : State) : Host.Outcome State Fault Refusal :=
  live (fun s =>
    match s.liu.line with
    | none => s
    | some line => if s.liu.phase = .slots ∧ s.rejects line slots then s.rejectFrame line else s) s

/-! ## The output TLO (R38, R39, R61) -/

/-- R38: the output TLO in the phase the line unit is in, bit time by bit time from the next one on: on, which drives dominant, or off. It is off in
every bit time that the list does not reach. An idle station with a choice drives its start bit next (R42); SEND drives the stuffed bits after the
start bit, a dominant one being false in the frame (R43, R44), and goes on with them after a relisten (R39); a break and the veto slot are eight and
two dominant bits of a participant (R48, R52), and of the thirty tally slots it drives its own (R53). A frame classified with a stuff bit to come
(R44) has that bit next: the sender drives it, and a receiver only the veto slot after it. -/
def State.tlo (s : State) : List Bool :=
  match s.liu.phase, s.liu.line with
  | .idle, _ => if s.choice.isSome then [true] else []
  | .send, some line =>
    match line.own with
    | some own =>
      if line.received.isSome then [!(frameWire own.frame).getLastD true] else (frameWire own.frame).tail.map (!·)
    | none => []
  | .receive, some line => if line.received.isSome then [false, line.vetoes, line.vetoes] else []
  | .breaking, some line => List.replicate Config.breakBits line.participating
  | .slots, some line =>
    if line.veto.isNone then [line.vetoes, line.vetoes]
    else (List.range Config.tallySlots).map fun i => line.tallies && decide (s.me.val = i + 1)
  | .off, _ | .seek, _ | _, none => []

end Sys2Proof.Machine
end

