-- ==== Sys2Proof/Machine/Timers.lean ====
section
/-! DEFINITION. The expiries of the part's timers and the start of a speed-cap period (R85 to R104, R119, R122, R143, R146,
R171, R172). -/
namespace Sys2Proof.Machine

open Sys2Proof

/-- R85, R89: the listen timer has run its full time with no miss. -/
def State.listenServed (s : State) : State :=
  (s.setListen fun l => { l with timer := none, served := true }).completionTest

/-- LISTEN_TIMER_EXPIRY (R85, R89, R92). -/
def execListenTimerExpiry (s : State) : Host.Outcome State Fault Refusal :=
  live (fun s =>
    if s.mbu.station = .listen ∧ (s.mbu.listen.any fun l => l.timer.isSome) = true then s.listenServed else s) s

/-- LISTEN_LIMIT_EXPIRY (R90). -/
def execListenLimitExpiry (s : State) : Host.Outcome State Fault Refusal :=
  live (fun s => if s.mbu.station = .listen ∧ s.mbu.listen.isSome then s.retry else s) s

/-- OWN_LEASE_EXPIRY (R94, R96). -/
def execOwnLeaseExpiry (s : State) : Host.Outcome State Fault Refusal :=
  live (fun s => if s.isActive && s.mbu.ownLease.isSome then s.relisten .ownLease else s) s

/-- R100: the peer holds a segment, or the map names it owner of a turnout. -/
def State.hasTrack (s : State) (k : Station) : Bool :=
  decide (0 < holdCount s.ctu k) || allSegs.any fun i => (s.seg i).owner == some k

/-- R100: the record of a peer after its lease has run out. -/
def State.expiredPeer (s : State) (k : Station) (p : Peer) : Peer :=
  if p.presence = .lapsing ∨ s.hasTrack k then { p with presence := .lapsing, lease := some s.remoteLease }
  else { p with presence := .absent, lease := none }

/-- R100, R102: a remote lease runs out. -/
def State.expirePeer (s : State) (k : Station) (p : Peer) : State :=
  let q := s.expiredPeer k p
  let s1 := (s.setPeer k q).postIf (p.presence != .lapsing) (.peer k q.presence)
  if q.presence = .lapsing then s1.requestLapse k else s1

/-- REMOTE_LEASE_EXPIRY (R100, R102). -/
def execRemoteLeaseExpiry (peer : Station) (s : State) : Host.Outcome State Fault Refusal :=
  live (fun s => if s.mbu.peers[peer].lease.isSome then s.expirePeer peer s.mbu.peers[peer] else s) s

/-- BEACON_TIMER_EXPIRY (R104). -/
def execBeaconTimerExpiry (s : State) : Host.Outcome State Fault Refusal :=
  live (fun s =>
    if s.mbu.beacon.isSome then (s.setMbu { s.mbu with beacon := some s.bp }).txRequest .beacon .beacon else s) s

/-- HOLD_OFF_EXPIRY (R119): the planner forms the next bundle anew. -/
def execHoldOffExpiry (s : State) : Host.Outcome State Fault Refusal :=
  live (fun s => if s.rte.holdOff.isSome then (s.setRte { s.rte with holdOff := none }).settle else s) s

/-- R122: a step's lie-wait timer has run out. -/
def Step.stopLieWait (num : Nat) (st : Step) : Step := if st.num = num then { st with lieWait := none } else st

/-- R122: the table's reported lie of a segment. -/
def State.reportedLie (s : State) (seg : Seg) : Lie := s.ctu[seg].reported.getD .unknown

/-- LIE_WAIT_EXPIRY (R122). -/
def execLieWaitExpiry (step : Nat) (s : State) : Host.Outcome State Fault Refusal :=
  live (fun s =>
    match s.rte.route.find? fun st => st.num == step && st.lieWait.isSome with
    | some st =>
      (s.setRte { s.rte with route := s.rte.route.map (Step.stopLieWait step) }).post
        (.lieLate st.num st.seg (s.reportedLie st.seg))
    | none => s) s

/-- R136, R146: the KEEP timer runs out. -/
def State.keepLapse (s : State) : State :=
  let s1 := (s.setMou { s.mou with keep := none }).assertStop .keep
  ((s1.post (.keepLapsed s.rte.state)).halt .keep).refresh

/-- KEEP_TIMER_EXPIRY (R146). -/
def execKeepTimerExpiry (s : State) : Host.Outcome State Fault Refusal :=
  live (fun s => if s.mou.keep.isSome then s.keepLapse else s) s

/-- SPD_PERIOD_START (R143). -/
def execSpdPeriodStart (s : State) : Host.Outcome State Fault Refusal :=
  live (fun s => s.setMou { s.mou with current := s.mou.next }) s

/-- The record of a field position (R163). -/
def State.recordAt (s : State) (p : Position) : Option Record := s.toc.records[p.val]?

/-- THROW_TIMER_EXPIRY (R172): the throw ends in FAILED with TIMEOUT. -/
def execThrowTimerExpiry (position : Position) (s : State) : Host.Outcome State Fault Refusal :=
  live (fun s =>
    match s.recordAt position with
    | some r => if r.throwTimer.isSome then s.endThrow r .failed .timeout else s
    | none => s) s

/-- STAGGER_EXPIRY (R171). -/
def execStaggerExpiry (s : State) : Host.Outcome State Fault Refusal :=
  live (fun s => if s.toc.stagger.isSome then (s.setToc { s.toc with stagger := none }).pump else s) s

end Sys2Proof.Machine
end

