-- ==== Sys2Proof/Machine/Field.lean ====
section
/-! DEFINITION. The field inputs: odometer, tag reader, lock detectors, occupancy (R150 to R160, R164 to R167, R176). -/
namespace Sys2Proof.Machine

open Sys2Proof

/-- ODOMETER_COUNT (R150, R151): the filtered odometer level rises. -/
def execOdometerCount (s : State) : Host.Outcome State Fault Refusal := live State.odometerRise s

/-- FILTERED_ODOMETER_FALL (R150). -/
def execFilteredOdometerFall (s : State) : Host.Outcome State Fault Refusal := live State.odometerFall s

/-- TAG_RECEIVED (R155 to R160). -/
def execTagReceived (start : Bool) (bits : BitVec 16) (stop : Bool) (s : State) : Host.Outcome State Fault Refusal :=
  live (fun s => s.tagRead start bits stop) s

/-- R164: replace the filtered inputs of one position. -/
def State.setInputs (s : State) (p : Position) (i : Inputs) : State :=
  s.setToc { s.toc with inputs := tabSet s.toc.inputs p i }

/-- R163, R177, R179: the station states in which the records follow their inputs. -/
def State.watching (s : State) : Bool :=
  s.isWayside && (s.mbu.station == .listen || s.online || s.mbu.station == .duplicateHalt)

/-- R164, R166, R167, R172: a lock detector takes a level; a level that does not change is no event. -/
def State.lockChange (s : State) (p : Position) (lock : Points) (level : Bool) : State :=
  let old := s.toc.inputs[p]
  let s1 := s.setInputs p (old.setLock lock level)
  if !s.watching || (old.lock lock).level == level then s1
  else
    match s1.recordAt p with
    | some r => s1.testDetectors r
    | none => s1

/-- LOCK_LEVEL_CHANGE (R166, R167, R172). -/
def execLockLevelChange (position : Position) (lock : Points) (level : Bool) (s : State) :
    Host.Outcome State Fault Refusal :=
  live (fun s => s.lockChange position lock level) s

/-- R164, R176: an occupancy input takes a level; a level that does not change is no event. -/
def State.occupancyChange (s : State) (p : Position) (level : Bool) : State :=
  let old := s.toc.inputs[p]
  let s1 := s.setInputs p { old with occupancy := .settledAt level }
  if !s.watching || old.occupancy.level == level then s1
  else
    match s1.recordAt p with
    | some r => s1.occupancyEvent r level
    | none => s1

/-- OCCUPANCY_CHANGE (R173, R176). -/
def execOccupancyChange (position : Position) (level : Bool) (s : State) : Host.Outcome State Fault Refusal :=
  live (fun s => s.occupancyChange position level) s

end Sys2Proof.Machine
end

