-- ==== Sys2Proof/Decode.lean ====
section
/-! DEFINITION. The command messages of the drive port: which command a message declares (R180, R182 test 1, R183 to R189), and the message of a command. The table of operations and events gives no row any bits. -/
namespace Sys2Proof

/-- The command that a code byte and its parameter bytes declare: one of the fifteen codes, with a length it allows. -/
def commandWith (code : Byte) (params : List Byte) : Option Instr :=
  match code.toNat, params with
  | 0x00, [] => some .status
  | 0x01, [] => some .notice
  | 0x02, [segment] => some (.readEntry segment)
  | 0x03, [station] => some (.readPeer station)
  | 0x04, segments => if 1 ≤ segments.length ∧ segments.length ≤ 12 then some (.clearCommand segments) else none
  | 0x10, [head, o2, o1, o0] => some (.locate head (o2 ++ o1 ++ o0) none)
  | 0x10, [head, o2, o1, o0, tail] => some (.locate head (o2 ++ o1 ++ o0) (some tail))
  | 0x11, segments => if 1 ≤ segments.length ∧ segments.length ≤ 16 then some (.loadRoute segments) else none
  | 0x12, [] => some .cancel
  | 0x13, [serial] => some (.take serial)
  | 0x14, [] => some .resume
  | 0x15, [] => some .docked
  | 0x16, [] => some .keep
  | 0x20, segments => if 1 ≤ segments.length ∧ segments.length ≤ 6 then some (.possess segments) else none
  | 0x21, [] => some .unpossess
  | 0x22, [segment, lie] => some (.throw segment lie)
  | _, _ => none

/-- The command of a whole transaction's bytes (R180): code, length, parameters; bytes after the declared command are
ignored, and a transaction with fewer bytes than the command declares carries none. -/
def commandOf (message : List Byte) : Option Instr :=
  match message with
  | code :: length :: rest =>
    if length.toNat ≤ rest.length then commandWith code (rest.take length.toNat) else none
  | _ => none

/-- The three bytes of a two- or three-byte field, most significant first (R180). -/
def bytes24 (v : BitVec 24) : List Byte :=
  [v.extractLsb' 16 8, v.extractLsb' 8 8, v.extractLsb' 0 8]

/-- The code byte and parameters by which the host sends a command (R183 to R189); events of the part have none. -/
def commandParts : Instr → Option (Byte × List Byte)
  | .status => some (0x00, [])
  | .notice => some (0x01, [])
  | .readEntry segment => some (0x02, [segment])
  | .readPeer station => some (0x03, [station])
  | .clearCommand segments => some (0x04, segments)
  | .locate head offset tail => some (0x10, head :: bytes24 offset ++ tail.toList)
  | .loadRoute segments => some (0x11, segments)
  | .cancel => some (0x12, [])
  | .take serial => some (0x13, [serial])
  | .resume => some (0x14, [])
  | .docked => some (0x15, [])
  | .keep => some (0x16, [])
  | .possess segments => some (0x20, segments)
  | .unpossess => some (0x21, [])
  | .throw segment lie => some (0x22, [segment, lie])
  | .reset | .resetRelease | .storeRetryWait | .clockStretchTimeout | .optionReadEnd _ _
  | .detectorSettleEnd _ _ _ _ | .settleTimeout _ _ _ _ | .lineIdle | .transmitStart | .frameStartReceived
  | .arbitrationLost | .clash _ | .stuffError _ | .breakEnd | .frameClassify _ | .vetoSlotEnd _ | .driveFailure
  | .frameRejected _ | .beaconTaken _ | .claimTaken _ | .reclaimTaken _ | .releaseTaken _ | .lapseTaken _
  | .clearTaken _ | .guardTaken _ | .lieTaken _ | .listenTimerExpiry | .listenLimitExpiry | .ownLeaseExpiry
  | .remoteLeaseExpiry _ | .beaconTimerExpiry | .holdOffExpiry | .lieWaitExpiry _ | .keepTimerExpiry
  | .spdPeriodStart | .odometerCount | .tagReceived _ _ _ | .lockLevelChange _ _ _ | .throwTimerExpiry _
  | .occupancyChange _ _ | .staggerExpiry | .busyTransaction | .invalidCommand _ | .filteredOdometerFall => none

/-- The command message of a command (R180). -/
def messageOf (i : Instr) : Option (List Byte) :=
  (commandParts i).map fun p => p.1 :: BitVec.ofNat 8 p.2.length :: p.2

/-- No row of spec/opcode_table.json gives bits, so no word spells a command. -/
def decodeTableWord (_nbits _w : Nat) : Option Instr := none

end Sys2Proof
end

