-- ==== Sys2Proof/Machine/Port.lean ====
section
/-! DEFINITION. The drive port: transactions (R180, R181), the tests of R182, and the commands of R183 to R189 with the rules
that own them (R110 to R113, R124, R128, R130, R134, R137 to R139, R145, R170). -/
namespace Sys2Proof.Machine

open Sys2Proof

/-! ## Transactions -/

/-- R181: the transaction shifts out the reply that was ready and leaves the new one in the buffer. -/
def State.answer (s : State) (r : Reply) : State := s.setDpt { s.dpt with shifted := some s.dpt.reply, reply := r }

/-- R181: a busy transaction shifts out BUSY; the reply buffer is kept. -/
def State.busy (s : State) : State := s.setDpt { s.dpt with shifted := some (.bare .busy) }

/-- The tests of R182 that stand before a command's own. -/
structure PortTests where
  /-- Test 1: the message declares this command. -/
  form : Bool
  /-- Test 2: processed in CONFIG_FAULT as well. -/
  anywhere : Bool
  /-- Test 3: the role the command belongs to. -/
  role : Option Role
  /-- Test 4: every parameter lies within its range. -/
  range : Bool
deriving DecidableEq, Repr

/-- R182: the reply of the first of tests 1 to 4 that fails. -/
def State.portRefusal (s : State) (t : PortTests) : Option Reply :=
  if !t.form then some (.bare .invalid)
  else if s.mbu.station == .configFault && !t.anywhere then some (.refuse .notActive)
  else if t.role.isSome && s.role != t.role then some (.bare .role)
  else if !t.range then some (.bare .invalid)
  else none

/-- R181, R182: a transaction that carries a command: busy in START; else answered by the first failing test or by the
command itself. -/
def State.transact (t : PortTests) (act : State → State × Reply) (s : State) : State :=
  if s.mbu.station = .start then s.busy
  else
    match s.portRefusal t with
    | some r => s.answer r
    | none => (act s).1.answer (act s).2

/-- A command of both roles that every state processes. -/
def PortTests.always (range : Bool) : PortTests := { form := true, anywhere := true, role := none, range := range }

/-- A command of one role. -/
def PortTests.ofRole (role : Role) (form range : Bool) : PortTests :=
  { form := form, anywhere := false, role := some role, range := range }

/-- R182 test 5: a command's own tests, then its effect with the reply DONE. -/
def State.judge (s : State) (refusal : Option Reason) (effect : State → State) : State × Reply :=
  match refusal with
  | some r => (s, .refuse r)
  | none => (effect s, .done [])

/-- The first failing test of a list, with its reason. -/
def firstFailing : List (Bool × Reason) → Option Reason
  | [] => none
  | (passes, reason) :: rest => if passes then firstFailing rest else some reason

/-- R180, R187: a segment byte lies within 0 to 63. -/
def isSegByte (b : Byte) : Bool := (segOfByte b).isSome

/-- The segments of bytes within range. -/
def segsOfBytes (bs : List Byte) : List Seg := bs.filterMap segOfByte

/-- R82: not in DUPLICATE_HALT. -/
def State.notHalted (s : State) : Bool := s.mbu.station != .duplicateHalt

/-! ## Commands of both roles (R181 to R186) -/

/-- BUSY_TRANSACTION (R181). -/
def execBusyTransaction (s : State) : Host.Outcome State Fault Refusal := live State.busy s

/-- INVALID_COMMAND (R182 test 1); a message that declares a command is another row. -/
def execInvalidCommand (message : List Byte) (s : State) : Host.Outcome State Fault Refusal :=
  live (fun s =>
    if (commandOf message).isSome then s
    else s.transact { form := false, anywhere := true, role := none, range := true } fun s => (s, .bare .invalid)) s

/-- STATUS (R183). -/
def execStatus (s : State) : Host.Outcome State Fault Refusal :=
  live (State.transact (.always true) fun s => (s, .done s.statusData)) s

/-- R184: the oldest notice leaves the queue. -/
def State.takeNotice (s : State) : State × Reply :=
  match s.dpt.notices with
  | [] => (s, .bare .empty)
  | n :: rest => (s.setDpt { s.dpt with notices := rest }, .done n.data)

/-- NOTICE (R184). -/
def execNotice (s : State) : Host.Outcome State Fault Refusal := live (State.transact (.always true) State.takeNotice) s

/-- R37, R185: the entry a segment byte names. -/
def State.entryOfByte (s : State) (b : Byte) : Entry := s.ctu[Fin.ofNat 64 b.toNat]

/-- READ ENTRY (R37, R185). -/
def execReadEntry (segment : Byte) (s : State) : Host.Outcome State Fault Refusal :=
  live (State.transact (.always (isSegByte segment)) fun s => (s, .done (entryData (s.entryOfByte segment)))) s

/-- R185: a station byte 1 to 30. -/
def isStationByte (b : Byte) : Bool := decide (1 ≤ b.toNat) && decide (b.toNat ≤ 30)

/-- READ PEER (R98, R185). -/
def execReadPeer (station : Byte) (s : State) : Host.Outcome State Fault Refusal :=
  live (State.transact (.always (isStationByte station)) fun s =>
    (s, .done (peerData s.mbu.peers[Fin.ofNat 32 station.toNat]))) s

/-- The tests of a list of segments that CLEAR and POSSESS share (R128, R186). -/
def State.segmentTests (s : State) (segs : List Seg) : List (Bool × Reason) :=
  [(segs.all fun seg => (s.seg seg).defined, .badSegment), (distinct segs, .repeated)]

/-- R186: the tests of CLEAR. -/
def State.clearRefusal (s : State) (segs : List Seg) : Option Reason :=
  firstFailing ((s.isActive, .notActive) :: s.segmentTests segs)

/-- R186: CLEAR. -/
def State.clearAct (segs : List Seg) (s : State) : State × Reply :=
  s.judge (s.clearRefusal segs) fun s => s.txRequest .clear (.segs (segSetOf segs))

/-- The CLEAR command (R186). -/
def execClearCommand (segments : List Byte) (s : State) : Host.Outcome State Fault Refusal :=
  live (State.transact
    { form := decide (1 ≤ segments.length) && decide (segments.length ≤ Config.listMax), anywhere := false, role := none,
      range := segments.all isSegByte }
    (State.clearAct (segsOfBytes segments))) s

/-! ## LOCATE and LOAD ROUTE (R110 to R113) -/

/-- R110: the tail is defined, differs from the head and is linked to it at one end at least. -/
def State.tailGood (s : State) (head tail : Seg) : Bool :=
  (s.seg tail).defined && tail != head && !(meetings s.opr.map head tail).isEmpty

/-- R110: the head and tail of a placement. -/
def State.placeGood (s : State) (head : Seg) (tail : Option Seg) : Bool :=
  (s.seg head).defined && tail.all (s.tailGood head)

/-- R110: the offset of a placement. -/
def State.offsetGood (s : State) (head : Seg) (tail : Option Seg) (offset : Nat) : Bool :=
  match tail with
  | none => decide (offset ≤ (s.seg head).length)
  | some _ => decide (offset < s.option (·.carriageLength))

/-- R110: LOCATE is taken in UNPLACED, PARKED and HALTED. -/
def RteState.locatable : RteState → Bool
  | .unplaced | .parked | .halted => true
  | .placing | .routed | .moving => false

/-- R110: the tests of LOCATE. -/
def State.locateRefusal (s : State) (head : Seg) (tail : Option Seg) (offset : Nat) : Option Reason :=
  firstFailing
    [(s.isActive, .notActive), (s.rte.state.locatable, .wrongState), (s.placeGood head tail, .badPlace),
     (s.offsetGood head tail offset, .badPlace)]

/-- R111 steps 1 to 4: what LOCATE leaves of claims, route, position and holds. -/
def State.relocate (s : State) (head : Seg) (tail : Option Seg) (offset : Nat) : State :=
  let held := s.rte.heldSegs
  let now := tail.toList ++ [head]
  let s1 := s.withdrawClaim
  let s2 := s1.requestRelease (held.filter fun seg => !now.contains seg)
  let s3 := s2.setPos { s2.pos with
    place := some { head := head, tail := tail, offset := offset, boundary := tail.map fun t => (t, head), creep := 0 }
    fault := none }
  s3.setRte { s3.rte with
    route := [], committedLimit := none, offer := none
    holds := now.map fun seg => { seg := seg, held := held.contains seg, formerly := false } }

/-- R111: an accepted LOCATE. -/
def State.locate (head : Seg) (tail : Option Seg) (offset : Nat) (s : State) : State :=
  let s1 := s.relocate head tail offset
  ((s1.setRte { s1.rte with misses := 0, holdOff := none, locatedHalted := s.rte.state == .halted }).setEngine
    .placing).settle

/-- R110, R111: LOCATE with parameters in range. -/
def State.locateAct (head : Seg) (tail : Option Seg) (offset : Nat) (s : State) : State × Reply :=
  s.judge (s.locateRefusal head tail offset) (State.locate head tail offset)

/-- LOCATE (R110, R111, R187). -/
def execLocate (head : Byte) (offset : BitVec 24) (tail : Option Byte) (s : State) : Host.Outcome State Fault Refusal :=
  live (State.transact
    (.ofRole .carriage true (isSegByte head && tail.all isSegByte && decide (offset.toNat ≤ 65535)))
    (State.locateAct (Fin.ofNat 64 head.toNat) (tail.map fun t => Fin.ofNat 64 t.toNat) offset.toNat)) s

/-- R113: the tests of LOAD ROUTE before the route itself. -/
def State.loadRefusal (s : State) : Option Reason :=
  firstFailing
    [(s.notHalted, .notActive), (s.rte.state == .parked, .wrongState), (s.tail.isNone, .tailPresent)]

/-- R108, R113: step 0, on the head segment, takes the flags of that segment's occupancy hold. -/
def giveFlags (holds : List Hold) : List Step → List Step
  | [] => []
  | st :: rest =>
    match holds.find? fun h => h.seg == st.seg with
    | some h => { st with held := h.held, formerly := h.formerly } :: rest
    | none => st :: rest

/-- R113: an accepted LOAD ROUTE. -/
def State.loadSteps (steps : List Step) (s : State) : State :=
  ((s.setRte { s.rte with
    route := giveFlags s.rte.holds steps, holds := [], committedLimit := some 0, misses := 0 }).setEngine .routed).settle

/-- R113: LOAD ROUTE with parameters in range. -/
def State.loadAct (segs : List Seg) (s : State) : State × Reply :=
  match s.loadRefusal with
  | some r => (s, .refuse r)
  | none =>
    match resolveRoute s.opr.map s.head segs with
    | .error r => (s, .refuse r)
    | .ok steps => (s.loadSteps steps, .done [])

/-- LOAD ROUTE (R7, R8, R113, R187). -/
def execLoadRoute (segments : List Byte) (s : State) : Host.Outcome State Fault Refusal :=
  live (State.transact
    (.ofRole .carriage (decide (1 ≤ segments.length) && decide (segments.length ≤ Config.routeMax))
      (segments.all isSegByte))
    (State.loadAct (segsOfBytes segments))) s

/-! ## The five remaining carriage commands (R188) -/

/-- R124: CANCEL is taken in ROUTED, MOVING and HALTED. -/
def RteState.hasRoute : RteState → Bool
  | .routed | .moving | .halted => true
  | .unplaced | .placing | .parked => false

/-- R124: the tests of CANCEL. -/
def State.cancelRefusal (s : State) : Option Reason :=
  firstFailing [(s.notHalted, .notActive), (s.rte.state.hasRoute, .wrongState)]

/-- R124 step 2: a step beyond the committed limit. -/
def Rte.beyondLimit (r : Rte) (st : Step) : Bool := r.committedLimit.any fun k => decide (k < st.num)

/-- R124 steps 1 to 4. -/
def State.cutRoute (s : State) : State :=
  let gone := (s.rte.route.filter fun st => s.rte.beyondLimit st && st.held).map (·.seg)
  let s1 := s.withdrawClaim.requestRelease gone
  s1.setRte { s1.rte with
    route := s.rte.route.filter fun st => !s.rte.beyondLimit st
    offer := none, misses := 0, holdOff := none }

/-- R124: an accepted CANCEL; a ROUTED engine clears the route and is PARKED. -/
def State.cancel (s : State) : State :=
  (if s.rte.state = .routed then s.cutRoute.clearRoute.setEngine .parked else s.cutRoute).settle

/-- CANCEL (R124). -/
def execCancel (s : State) : Host.Outcome State Fault Refusal :=
  live (State.transact (.ofRole .carriage true true) fun s => s.judge s.cancelRefusal State.cancel) s

/-- R134: the engine states in which TAKE is tested against the offer. -/
def RteState.takes : RteState → Bool
  | .routed | .moving => true
  | .unplaced | .placing | .parked | .halted => false

/-- R134: the tests of TAKE before the serial. -/
def State.takeRefusal (s : State) : Option Reason :=
  firstFailing [(s.isActive, .notActive), (s.rte.state.takes, .wrongState)]

/-- R134: the steps that an offer commits. -/
def commitSteps (route : List Step) (head limit : Nat) : List Step :=
  route.map fun st => if head ≤ st.num ∧ st.num ≤ limit then { st with committed := true } else st

/-- R134: an accepted TAKE. -/
def State.commit (s : State) (o : Offer) : State :=
  ((s.setRte { s.rte with
    route := commitSteps s.rte.route (s.headNum.getD 0) o.step
    committedLimit := some o.step, offer := none }).setEngine .moving).refresh

/-- R182, R188: the reply STALE carries the current offer's serial. -/
def staleReply (o : Option Offer) : Reply := { status := .stale, data := (o.map (·.serial)).toList }

/-- R134: TAKE of a serial. -/
def State.takeAct (serial : Byte) (s : State) : State × Reply :=
  match s.takeRefusal, s.rte.offer with
  | some r, _ => (s, .refuse r)
  | none, some o => if o.serial = serial then (s.commit o, .done []) else (s, staleReply (some o))
  | none, none => (s, staleReply none)

/-- TAKE (R134, R188). -/
def execTake (serial : Byte) (s : State) : Host.Outcome State Fault Refusal :=
  live (State.transact (.ofRole .carriage true true) (State.takeAct serial)) s

/-- R137: the engine states in which RESUME is tested further. -/
def RteState.resumable : RteState → Bool
  | .parked | .routed | .moving | .halted => true
  | .unplaced | .placing => false

/-- R137: the tests of RESUME before the STOP level. -/
def State.resumeRefusal (s : State) : Option Reason :=
  firstFailing [(s.isActive, .notActive), (s.rte.state.resumable, .wrongState)]

/-- R137: the tests of RESUME with STOP asserted. -/
def State.releaseRefusal (s : State) : Option Reason :=
  firstFailing
    [(s.mou.keep.isSome, .keepStale), (s.pos.fault.isNone, .positionFault), (committedValid s.rte.route, .notValid)]

/-- R138: steps remain beyond the head. -/
def State.stepsAhead (s : State) : Bool :=
  match s.headNum with
  | some h => s.rte.route.any fun st => decide (h < st.num)
  | none => false

/-- R132, R138: nothing is committed any more; the head step is the committed limit. -/
def State.uncommit (s : State) : State :=
  s.setRte { s.rte with
    route := s.rte.route.map fun st => { st with committed := false }, committedLimit := s.headNum }

/-- R138: the engine after an accepted RESUME. -/
def State.resumeEngine (s : State) : State :=
  if s.rte.state = .halted then
    if s.committedBeyond then s.setEngine .moving
    else if s.stepsAhead then s.uncommit.setEngine .routed
    else s.clearRoute.setEngine .parked
  else s

/-- R138: an accepted RESUME. -/
def State.resume (s : State) : State := ((s.setMou { s.mou with stop := false }).resumeEngine).refresh

/-- R137, R138: RESUME. -/
def State.resumeAct (s : State) : State × Reply :=
  match s.resumeRefusal with
  | some r => (s, .refuse r)
  | none => if s.mou.stop then s.judge s.releaseRefusal State.resume else (s, .done [])

/-- RESUME (R137, R138). -/
def execResume (s : State) : Host.Outcome State Fault Refusal :=
  live (State.transact (.ofRole .carriage true true) State.resumeAct) s

/-- R139: the head step is the final step, and no tail is present. -/
def State.atEnd (s : State) : Bool := s.headNum.any s.rte.isFinal && s.tail.isNone

/-- R139: the tests of DOCKED. -/
def State.dockedRefusal (s : State) : Option Reason :=
  firstFailing [(s.notHalted, .notActive), (s.rte.state == .moving, .wrongState), (s.atEnd, .notAtEnd)]

/-- R139: an accepted DOCKED. -/
def State.dock (s : State) : State :=
  let s1 := s.clearRoute
  ((s1.setRte { s1.rte with misses := 0 }).setEngine .parked).settle

/-- DOCKED (R139). -/
def execDocked (s : State) : Host.Outcome State Fault Refusal :=
  live (State.transact (.ofRole .carriage true true) fun s => s.judge s.dockedRefusal State.dock) s

/-- R145: the KEEP timer restarts for the full KEEP time. -/
def State.restartKeep (s : State) : State :=
  s.setMou { s.mou with keep := some (Config.codeUnit * s.option (·.keepCode)) }

/-- KEEP (R145). -/
def execKeep (s : State) : Host.Outcome State Fault Refusal :=
  live (State.transact (.ofRole .carriage true true) fun s =>
    s.judge (firstFailing [(s.notHalted, .notActive)]) State.restartKeep) s

/-! ## Wayside commands (R128, R130, R170) -/

/-- R128: the tests of POSSESS. -/
def State.possessRefusal (s : State) (segs : List Seg) : Option Reason :=
  firstFailing ((s.isActive, .notActive) :: (!s.toc.claiming, .claimOutstanding) :: s.segmentTests segs)

/-- R128: an accepted POSSESS. -/
def State.possess (segs : List Seg) (s : State) : State :=
  let args : Args := .claim false (segs.map fun seg => { seg := seg, required := none }) 0
  (s.txRequest .claim args).setToc { s.toc with claiming := s.txAccepts .claim args }

/-- R128: POSSESS with parameters in range. -/
def State.possessAct (segs : List Seg) (s : State) : State × Reply := s.judge (s.possessRefusal segs) (State.possess segs)

/-- POSSESS (R128, R189). -/
def execPossess (segments : List Byte) (s : State) : Host.Outcome State Fault Refusal :=
  live (State.transact
    (.ofRole .wayside (decide (1 ≤ segments.length) && decide (segments.length ≤ Config.bundleMax))
      (segments.all isSegByte))
    (State.possessAct (segsOfBytes segments))) s

/-- R130: withdraw an outstanding possession claim. -/
def State.withdrawPossession (s : State) : State :=
  if s.toc.claiming then
    (s.setTxq s.txq.withdraw.1).setToc { s.toc with claiming := !s.txq.withdraw.2 }
  else s

/-- R130: an accepted UNPOSSESS. -/
def State.unpossess (s : State) : State := s.withdrawPossession.requestRelease ((holdings s.ctu s.me).map (·.seg))

/-- UNPOSSESS (R130, R189). -/
def execUnpossess (s : State) : Host.Outcome State Fault Refusal :=
  live (State.transact (.ofRole .wayside true true) fun s =>
    s.judge (firstFailing [(s.isActive, .notActive)]) State.unpossess) s

/-- R189: the lie of a THROW. -/
def throwLieOf (b : Byte) : Option Points :=
  match b.toNat with
  | 1 => some .normal
  | 2 => some .reverse
  | _ => none

/-- R170: the turnout is MOVING towards the other lie. -/
def State.throwsAway (s : State) (seg : Seg) (p : Points) : Bool :=
  match s.toc.record seg with
  | some r => r.lie == .moving && r.target != some p
  | none => false

/-- R170: the tests of THROW. -/
def State.throwRefusal (s : State) (seg : Seg) (p : Points) : Option Reason :=
  firstFailing
    [(s.isActive, .notActive), (s.owned.contains seg, .notOwned), (s.ctu[seg].heldBy s.me, .notPossessed),
     (!s.occupied seg, .occupied), (!s.throwsAway seg p, .moving)]

/-- R170: an accepted THROW. Where a turnout is both locked in the lie and queued for the other, nothing changes and the queued
throw stays: the model's choice (log entry 27). -/
def State.throwTo (seg : Seg) (p : Points) (s : State) : State :=
  if s.toc.lieOf seg = pointsLie p ∨ s.toc.lieOf seg = .moving then s
  else if s.toc.queue.contains seg then s.modifyRecord seg (Record.aim (some p) none)
  else s.joinQueue seg p none

/-- R170: THROW with parameters in range. -/
def State.throwAct (seg : Seg) (lie : Option Points) (s : State) : State × Reply :=
  match lie with
  | some p => s.judge (s.throwRefusal seg p) (State.throwTo seg p)
  | none => (s, .bare .invalid)

/-- THROW (R170, R189). -/
def execThrow (segment : Byte) (lie : Byte) (s : State) : Host.Outcome State Fault Refusal :=
  live (State.transact (.ofRole .wayside true (isSegByte segment && (throwLieOf lie).isSome))
    (State.throwAct (Fin.ofNat 64 segment.toNat) (throwLieOf lie))) s

end Sys2Proof.Machine
end

