-- ==== Sys2Proof/Machine/StartUp.lean ====
section
/-! DEFINITION. The start-up commands: reset, the option read and the settle (R164, R194, R195, R199, R200). -/
namespace Sys2Proof.Machine

open Sys2Proof

/-- R194: every piece of state at its power-up value, the queue of what waits kept. -/
def State.powerUp (s : State) (held : Bool) : State :=
  { State.reset with
    inReset := held
    opr := { State.reset.opr with reading := !held }
    pending := s.pending }

/-- R200: an attempt to read failed; the third in a row ends the read with NO_STORE (R195). -/
def State.readFailed (s : State) : State :=
  if s.opr.failures + 1 < Config.storeAttempts then s.setOpr { s.opr with failures := s.opr.failures + 1 }
  else (s.setOpr { s.opr with failures := s.opr.failures + 1 }).configFault .noStore

/-- The read of START is in progress (R195). -/
def State.isReading (s : State) : Bool := s.mbu.station == .start && s.opr.reading

/-- R164: the settle of START has not ended. -/
def State.isSettling (s : State) : Bool := s.mbu.station == .start && !s.toc.settled

/-- RESET (R194): reset is held. -/
def execReset (s : State) : Host.Outcome State Fault Refusal := .next (s.powerUp true)

/-- RESET_RELEASE (R194): START begins. Without a reset held it is no event. -/
def execResetRelease (s : State) : Host.Outcome State Fault Refusal := .next (if s.inReset then s.powerUp false else s)

/-- STORE_RETRY_WAIT (R195): the store did not acknowledge, or SDA stayed low. -/
def execStoreRetryWait (s : State) : Host.Outcome State Fault Refusal :=
  live (fun s => if s.isReading then s.readFailed else s) s

/-- CLOCK_STRETCH_TIMEOUT (R195): the read ends with NO_STORE. -/
def execClockStretchTimeout (s : State) : Host.Outcome State Fault Refusal :=
  live (fun s => if s.isReading then s.configFault .noStore else s) s

/-- OPTION_READ_END (R195 to R200): the checks in store order, then the installation or CONFIG_FAULT. -/
def execOptionReadEnd (store : List Byte) (odo : Bool) (s : State) : Host.Outcome State Fault Refusal :=
  live (fun s => if s.isReading then s.endRead store odo else s) s

/-- DETECTOR_SETTLE_END (R164). -/
def execDetectorSettleEnd (p1 p2 p3 p4 : Levels) (s : State) : Host.Outcome State Fault Refusal :=
  live (fun s =>
    if s.isSettling then s.endSettle ⟨#[inputsOfLevels p1, inputsOfLevels p2, inputsOfLevels p3, inputsOfLevels p4], rfl⟩
    else s) s

/-- SETTLE_TIMEOUT (R164): one second after the option read. -/
def execSettleTimeout (p1 p2 p3 p4 : PartLevels) (s : State) : Host.Outcome State Fault Refusal :=
  live (fun s =>
    if s.isSettling && s.toc.settleLimit.isSome then
      s.endSettle ⟨#[inputsAtLimit p1, inputsAtLimit p2, inputsAtLimit p3, inputsAtLimit p4], rfl⟩
    else s) s

end Sys2Proof.Machine
end

