-- ==== Sys2Proof/Machine/Taken.lean ====
section
/-! DEFINITION. The verdict TAKEN (R54, R56, R60): the eight kinds of taken frame, as a participant applies them (R21) and as a
listening station learns them (R86 to R89). -/
namespace Sys2Proof.Machine

open Sys2Proof

/-- R54, R61: the verdict TAKEN is reached. -/
def State.takes (s : State) (line : LineFrame) (slots : StationSet) : Bool :=
  s.liu.phase == .slots && line.veto == some false && s.quorate slots

/-- R57, R59: the outcome TAKEN of this station's frame; nothing after a relisten. -/
def State.sendTaken (s : State) (own : Bool) : State × Option ClaimTold :=
  if own && s.txq.flying.isSome then
    ((s.setTxq (s.txq.outcome .taken).1).setLiu { s.liu with rejections := 0 }, (s.txq.outcome .taken).2)
  else (s, none)

/-- R56: the change report goes to the route engine or the turnout controller. -/
def State.handReport (s : State) (r : Report) (told : Option ClaimTold) : State :=
  match s.role with
  | some .carriage => s.routeReport r told
  | some .wayside => s.turnoutReport r told
  | none => s

/-- R21, R22, R56: the claim table unit applies the frame, and its report is acted on. -/
def State.applyFrame (s : State) (sender : Station) (content : Option Payload) (told : Option ClaimTold) : State :=
  match content with
  | none => s
  | some p =>
    (s.setCtu (applyPayload s.opr.map s.ctu sender p)).handReport (reportOf s.opr.map s.ctu sender p) told

/-- R101, R103: the payload of a taken frame as the peer table reads it: its content, or under a good CRC the part that stands though
another check failed. -/
def Received.heard (roster : StationSet) (r : Received) : Option Payload :=
  match r.content with
  | some p => some p
  | none => if frameCrcGood r.frame then peerPart roster r.frame else none

/-- R99, R101, R103, R91: the peer table after a taken frame. The stations seen come first and then those of a LAPSE, each in
ascending station number: the order of their PEER notices is the model's choice (log entry 10). -/
def State.peersTaken (s : State) (tally : StationSet) (sender : Station) (heard : Option Payload) : State :=
  let before := s.mbu.peers
  let s1 := (s.seenSet tally sender).foldl State.see s
  let s2 :=
    match heard with
    | some p => s1.peerContent sender p
    | none => s1
  s2.sightingTaken before

/-- R78: the stations that leave the LAPSE entry: those seen, and those a taken LAPSE names. -/
def withdrawnStations (tally : StationSet) (sender : Station) (heard : Option Payload) : StationSet :=
  (tally ||| stationOne sender) |||
    match heard with
    | some (.lapse set) => set
    | _ => 0

/-- R93: the frame is this station's own announce. -/
def ownAnnounce (own : Bool) : Option Payload → Bool
  | some (.beacon announce _ _ _ _) => own && announce
  | _ => false

/-- R56: a taken frame in ANNOUNCE and ACTIVE. -/
def State.takenOnline (s : State) (own : Bool) (r : Received) (tally : StationSet) : State :=
  let sender := frameStation r.frame
  let heard := r.heard s.roster
  let told := (s.sendTaken own).2
  let s1 := (s.sendTaken own).1.applyFrame sender r.content told
  let s2 := s1.peersTaken tally sender heard
  let s3 := s2.setTxq (s2.txq.withoutStations (withdrawnStations tally sender heard))
  let s4 := if s3.isActive then s3.startOwnLease else s3
  if s4.mbu.station = .announce ∧ ownAnnounce own r.content then s4.activate else s4

/-- R86 to R88, R91: what a listening station makes of a taken frame's class. -/
def State.hear (s : State) (r : Received) : State :=
  match r.cls with
  | .good =>
    match r.content with
    | some p => s.learn r.frame p
    | none => s
  | .foreign => s.setListen fun l => { l with heard := true }
  | .faulty => s.miss

/-- R88, R101, R103: what the peer table of a listening station reads of a taken frame: nothing of a miss, from which nothing is
learned (log entry 15). -/
def Received.heardListening (roster : StationSet) (r : Received) : Option Payload :=
  match r.cls with
  | .good | .foreign => r.heard roster
  | .faulty => none

/-- R85 to R91: a taken frame in LISTEN. -/
def State.takenListening (s : State) (r : Received) (tally : StationSet) : State :=
  ((s.hear r).peersTaken tally (frameStation r.frame) (r.heardListening s.roster)).completionTest

/-- R56, R60, R61: the verdict TAKEN on a frame this station read to its end. -/
def State.taken (s : State) (line : LineFrame) (r : Received) (tally : StationSet) : State :=
  if frameStation r.frame = s.me ∧ line.own.isNone then s.duplicateHalt
  else
    let s1 := s.seekIdle 0
    if s.online then s1.takenOnline line.own.isSome r tally
    else s1.takenListening r tally

/-- The kind of a received frame, as its content or under a good CRC its header says it. -/
def Received.kind (r : Received) : Option Kind :=
  match r.content with
  | some p => some p.kind
  | none => if frameCrcGood r.frame then kindOf r.frame.kind.toNat else none

/-- The kind of a received frame is the row's; a frame whose kind could not be read may be of any (log entry 13). -/
def Received.ofKind (r : Received) (k : Kind) : Bool := r.kind.all (· == k)

/-- The verdict TAKEN on a frame of one kind, under the station states of R60. -/
def State.takenRow (k : Kind) (slots : StationSet) (s : State) : State :=
  match s.liu.line with
  | none => s
  | some line =>
    match line.received with
    | none => s
    | some r =>
      if s.takes line slots && r.ofKind k && (s.online || s.mbu.station == .listen) then
        s.taken line r (s.tallySet slots)
      else s

/-- BEACON_TAKEN (R35, R86, R93, R103). -/
def execBeaconTaken (slots : StationSet) (s : State) : Host.Outcome State Fault Refusal :=
  live (State.takenRow .beacon slots) s

/-- CLAIM_TAKEN (R24, R26, R27). -/
def execClaimTaken (slots : StationSet) (s : State) : Host.Outcome State Fault Refusal :=
  live (State.takenRow .claim slots) s

/-- RECLAIM_TAKEN (R25, R26, R27). -/
def execReclaimTaken (slots : StationSet) (s : State) : Host.Outcome State Fault Refusal :=
  live (State.takenRow .reclaim slots) s

/-- RELEASE_TAKEN (R28). -/
def execReleaseTaken (slots : StationSet) (s : State) : Host.Outcome State Fault Refusal :=
  live (State.takenRow .release slots) s

/-- LAPSE_TAKEN (R29 to R31, R101). -/
def execLapseTaken (slots : StationSet) (s : State) : Host.Outcome State Fault Refusal :=
  live (State.takenRow .lapse slots) s

/-- CLEAR_TAKEN (R32). -/
def execClearTaken (slots : StationSet) (s : State) : Host.Outcome State Fault Refusal :=
  live (State.takenRow .clear slots) s

/-- GUARD_TAKEN (R33). -/
def execGuardTaken (slots : StationSet) (s : State) : Host.Outcome State Fault Refusal :=
  live (State.takenRow .guard slots) s

/-- LIE_TAKEN (R34). -/
def execLieTaken (slots : StationSet) (s : State) : Host.Outcome State Fault Refusal :=
  live (State.takenRow .lie slots) s

end Sys2Proof.Machine
end

