-- ==== Sys2Proof/Machine/Dispatch.lean ====
section
/-! DEFINITION. One arm for each command or event of the table, each one call of its meaning. -/
namespace Sys2Proof.Machine

open Sys2Proof

/-- The effect of a command or event on everything but the queue. -/
def exec (i : Instr) (s : State) : Host.Outcome State Fault Refusal :=
    match i with
      | .reset => Sys2Proof.Machine.execReset s
      | .resetRelease => Sys2Proof.Machine.execResetRelease s
      | .storeRetryWait => Sys2Proof.Machine.execStoreRetryWait s
      | .clockStretchTimeout => Sys2Proof.Machine.execClockStretchTimeout s
      | .optionReadEnd store odo => Sys2Proof.Machine.execOptionReadEnd store odo s
      | .detectorSettleEnd p1 p2 p3 p4 => Sys2Proof.Machine.execDetectorSettleEnd p1 p2 p3 p4 s
      | .settleTimeout p1 p2 p3 p4 => Sys2Proof.Machine.execSettleTimeout p1 p2 p3 p4 s
      | .lineIdle => Sys2Proof.Machine.execLineIdle s
      | .transmitStart => Sys2Proof.Machine.execTransmitStart s
      | .frameStartReceived => Sys2Proof.Machine.execFrameStartReceived s
      | .arbitrationLost => Sys2Proof.Machine.execArbitrationLost s
      | .clash arbitrated => Sys2Proof.Machine.execClash s arbitrated
      | .stuffError recessive => Sys2Proof.Machine.execStuffError recessive s
      | .breakEnd => Sys2Proof.Machine.execBreakEnd s
      | .frameClassify frame => Sys2Proof.Machine.execFrameClassify frame s
      | .vetoSlotEnd dominant => Sys2Proof.Machine.execVetoSlotEnd dominant s
      | .driveFailure => Sys2Proof.Machine.execDriveFailure s
      | .frameRejected slots => Sys2Proof.Machine.execFrameRejected slots s
      | .beaconTaken slots => Sys2Proof.Machine.execBeaconTaken slots s
      | .claimTaken slots => Sys2Proof.Machine.execClaimTaken slots s
      | .reclaimTaken slots => Sys2Proof.Machine.execReclaimTaken slots s
      | .releaseTaken slots => Sys2Proof.Machine.execReleaseTaken slots s
      | .lapseTaken slots => Sys2Proof.Machine.execLapseTaken slots s
      | .clearTaken slots => Sys2Proof.Machine.execClearTaken slots s
      | .guardTaken slots => Sys2Proof.Machine.execGuardTaken slots s
      | .lieTaken slots => Sys2Proof.Machine.execLieTaken slots s
      | .listenTimerExpiry => Sys2Proof.Machine.execListenTimerExpiry s
      | .listenLimitExpiry => Sys2Proof.Machine.execListenLimitExpiry s
      | .ownLeaseExpiry => Sys2Proof.Machine.execOwnLeaseExpiry s
      | .remoteLeaseExpiry peer => Sys2Proof.Machine.execRemoteLeaseExpiry peer s
      | .beaconTimerExpiry => Sys2Proof.Machine.execBeaconTimerExpiry s
      | .holdOffExpiry => Sys2Proof.Machine.execHoldOffExpiry s
      | .lieWaitExpiry step => Sys2Proof.Machine.execLieWaitExpiry step s
      | .keepTimerExpiry => Sys2Proof.Machine.execKeepTimerExpiry s
      | .spdPeriodStart => Sys2Proof.Machine.execSpdPeriodStart s
      | .odometerCount => Sys2Proof.Machine.execOdometerCount s
      | .tagReceived start bits stop => Sys2Proof.Machine.execTagReceived start bits stop s
      | .lockLevelChange position lock level => Sys2Proof.Machine.execLockLevelChange position lock level s
      | .throwTimerExpiry position => Sys2Proof.Machine.execThrowTimerExpiry position s
      | .occupancyChange position level => Sys2Proof.Machine.execOccupancyChange position level s
      | .staggerExpiry => Sys2Proof.Machine.execStaggerExpiry s
      | .busyTransaction => Sys2Proof.Machine.execBusyTransaction s
      | .invalidCommand message => Sys2Proof.Machine.execInvalidCommand message s
      | .status => Sys2Proof.Machine.execStatus s
      | .notice => Sys2Proof.Machine.execNotice s
      | .readEntry segment => Sys2Proof.Machine.execReadEntry segment s
      | .readPeer station => Sys2Proof.Machine.execReadPeer station s
      | .clearCommand segments => Sys2Proof.Machine.execClearCommand segments s
      | .locate head offset tail => Sys2Proof.Machine.execLocate head offset tail s
      | .loadRoute segments => Sys2Proof.Machine.execLoadRoute segments s
      | .cancel => Sys2Proof.Machine.execCancel s
      | .take serial => Sys2Proof.Machine.execTake serial s
      | .resume => Sys2Proof.Machine.execResume s
      | .docked => Sys2Proof.Machine.execDocked s
      | .keep => Sys2Proof.Machine.execKeep s
      | .possess segments => Sys2Proof.Machine.execPossess segments s
      | .unpossess => Sys2Proof.Machine.execUnpossess s
      | .throw segment lie => Sys2Proof.Machine.execThrow segment lie s
      | .filteredOdometerFall => Sys2Proof.Machine.execFilteredOdometerFall s

end Sys2Proof.Machine
end

