-- ==== Sys2Proof/Machine/Tick.lean ====
section
/-! DEFINITION. One millisecond of the part's running timers (data book "Time", log entry 1). An expiry is a command of its own. -/
namespace Sys2Proof.Machine

open Sys2Proof

/-- A running timer one millisecond later. -/
def down (t : Option Nat) : Option Nat := t.map (· - 1)

/-- R85: the listen timers. -/
def Listen.tick (l : Listen) : Listen := { l with timer := down l.timer, limit := l.limit - 1 }

/-- R98: a remote lease. -/
def Peer.tick (p : Peer) : Peer := { p with lease := down p.lease }

/-- R85, R94, R98, R104: the membership timers. -/
def Mbu.tick (m : Mbu) : Mbu :=
  { m with
    listen := m.listen.map Listen.tick, ownLease := down m.ownLease, beacon := down m.beacon
    peers := tab fun k => m.peers[k].tick }

/-- R122: a lie-wait timer. -/
def Step.tick (st : Step) : Step := { st with lieWait := down st.lieWait }

/-- R119, R122: the route engine's timers. -/
def Rte.tick (r : Rte) : Rte := { r with route := r.route.map Step.tick, holdOff := down r.holdOff }

/-- R145: the KEEP timer. -/
def Mou.tick (m : Mou) : Mou := { m with keep := down m.keep }

/-- R171: a throw timer. -/
def Record.tick (r : Record) : Record := { r with throwTimer := down r.throwTimer }

/-- R164, R171: the turnout controller's timers. -/
def Toc.tick (t : Toc) : Toc :=
  { t with records := t.records.map Record.tick, stagger := down t.stagger, settleLimit := down t.settleLimit }

/-- The part one millisecond later; nothing runs while reset is held (R194). -/
def State.tick (s : State) : State :=
  if s.inReset then s
  else (((s.setMbu s.mbu.tick).setRte s.rte.tick).setMou s.mou.tick).setToc s.toc.tick

end Sys2Proof.Machine
end

