-- ==== Sys2Proof/Machine/Step.lean ====
section
/-! DEFINITION. One step of the part: the command or event at the front of the queue, or one millisecond on an empty queue. -/
namespace Sys2Proof.Machine

open Sys2Proof

/-- One step: the front of the queue runs on the state with the queue's rest; an empty queue is one millisecond (log entry 1). -/
def step (s : State) : Host.Outcome State Fault Refusal :=
  match s.pending with
  | [] => .next s.tick
  | i :: rest => exec i (s.setPending rest)

/-- No row of the table gives bits, so no word spells a command: the state is unchanged. -/
def State.withFetchWord (s : State) (nbits w : Nat) : State :=
  match decodeTableWord nbits w with
  | some i => s.setPending (i :: s.pending)
  | none => s

end Sys2Proof.Machine
end

