-- ==== Sys2Proof/Safety.lean ====
section
/-! DEFINITION. What counts as a safe state of one TK60, in the terms the statements use: the data book's laws of the device that one
station can keep, and the rows of the taken frames by kind. -/
namespace Sys2Proof.Machine

open Sys2Proof

/-- The row of a taken frame of a kind. -/
def takenInstr (k : Kind) (slots : StationSet) : Instr :=
  match k with
  | .beacon => .beaconTaken slots
  | .claim => .claimTaken slots
  | .reclaim => .reclaimTaken slots
  | .release => .releaseTaken slots
  | .lapse => .lapseTaken slots
  | .clear => .clearTaken slots
  | .guard => .guardTaken slots
  | .lie => .lieTaken slots

/-- The blocks of the part. -/
inductive Block where
  | opr
  | ctu
  | liu
  | txq
  | mbu
  | rte
  | mou
  | pos
  | toc
  | dpt
deriving DecidableEq, Repr

/-- The two states agree in every block that is not in the list, in the reset line and in the queue of what waits. -/
def SameBut (blocks : List Block) (s t : State) : Prop :=
  t.inReset = s.inReset ∧ t.pending = s.pending ∧ (Block.opr ∈ blocks ∨ t.opr = s.opr) ∧
    (Block.ctu ∈ blocks ∨ t.ctu = s.ctu) ∧ (Block.liu ∈ blocks ∨ t.liu = s.liu) ∧ (Block.txq ∈ blocks ∨ t.txq = s.txq) ∧
    (Block.mbu ∈ blocks ∨ t.mbu = s.mbu) ∧ (Block.rte ∈ blocks ∨ t.rte = s.rte) ∧ (Block.mou ∈ blocks ∨ t.mou = s.mou) ∧
    (Block.pos ∈ blocks ∨ t.pos = s.pos) ∧ (Block.toc ∈ blocks ∨ t.toc = s.toc) ∧ (Block.dpt ∈ blocks ∨ t.dpt = s.dpt)

/-- The blocks a command or event may write; RESET and RESET_RELEASE write them all. -/
def mayChange : Instr → List Block
  | .reset | .resetRelease => [.opr, .ctu, .liu, .txq, .mbu, .rte, .mou, .pos, .toc, .dpt]
  | .storeRetryWait | .clockStretchTimeout => [.opr, .mbu, .dpt]
  | .optionReadEnd _ _ => [.opr, .ctu, .liu, .mbu, .pos, .toc, .dpt]
  | .detectorSettleEnd _ _ _ _ | .settleTimeout _ _ _ _ => [.liu, .mbu, .toc, .dpt]
  | .lineIdle => [.liu]
  | .transmitStart | .frameStartReceived => [.liu, .txq]
  | .stuffError _ => [.liu, .mbu, .dpt]
  | .frameClassify _ => [.liu, .mbu]
  | .arbitrationLost => [.liu, .txq, .rte, .mou, .pos, .toc, .dpt]
  | .clash _ | .breakEnd | .vetoSlotEnd _ | .driveFailure | .frameRejected _ | .beaconTaken _ | .claimTaken _
  | .reclaimTaken _ | .releaseTaken _ | .lapseTaken _ | .clearTaken _ | .guardTaken _ | .lieTaken _
  | .ownLeaseExpiry => [.ctu, .liu, .txq, .mbu, .rte, .mou, .pos, .toc, .dpt]
  | .listenTimerExpiry | .remoteLeaseExpiry _ => [.txq, .mbu, .dpt]
  | .listenLimitExpiry => [.ctu, .mbu, .dpt]
  | .beaconTimerExpiry => [.txq, .mbu]
  | .holdOffExpiry | .odometerCount | .tagReceived _ _ _ | .locate _ _ _ | .loadRoute _ | .cancel | .docked =>
    [.txq, .rte, .mou, .pos, .dpt]
  | .lieWaitExpiry _ => [.rte, .dpt]
  | .keepTimerExpiry | .take _ | .resume => [.rte, .mou, .pos, .dpt]
  | .spdPeriodStart => [.mou]
  | .filteredOdometerFall => [.pos]
  | .lockLevelChange _ _ _ | .occupancyChange _ _ | .throwTimerExpiry _ | .staggerExpiry | .possess _ | .unpossess
  | .throw _ _ => [.txq, .toc, .dpt]
  | .busyTransaction | .invalidCommand _ | .status | .notice | .readEntry _ | .readPeer _ => [.dpt]
  | .clearCommand _ => [.txq, .dpt]
  | .keep => [.mou, .dpt]

/-- R51, R52, R61: the frame on the line is classified and its veto slot comes next: in SLOTS, or in SEND or RECEIVE while the stuff bit after
its CRC is on the line. -/
def AtVeto (s : State) (l : LineFrame) : Prop :=
  s.liu.line = some l ∧ l.received.isSome ∧ l.veto = none ∧
    (s.liu.phase = .slots ∨ s.liu.phase = .send ∨ s.liu.phase = .receive)

/-- R59: the rejection count that a clash raises: from 0 where the clashed frame had passed arbitration for an entry other than the one counted. -/
def clashCount (s : State) (arbitrated : Bool) (e : TxEntry) : Nat :=
  if arbitrated = true ∧ s.liu.counted ≠ some e.identity then 0 else s.liu.rejections

/-- R77, R79, R118: the outcome REJECTED at a carriage whose own withdrawn claim was in flight: the claim is over, and the planner tests. Where another
entry was in flight, or at a wayside, a relisten right after the outcome leaves nothing of it. The outcome before the relisten is the model's choice
(log entry 32). -/
def discardClaim (v : State) (e : TxEntry) (f : Flight) : State :=
  if f.withdrawn = true ∧ v.role = some .carriage then
    ((v.setTxq (v.txq.replace e.key none)).setRte { v.rte with claim := none }).settle
  else v

/-- R55, R58, R59, R94, R95: the events that relisten, with their causes, and the state that the relisten meets: the sighting of a spoiled or rejected
frame is over by then (log entry 10), and so is a withdrawn claim that was rejected (log entry 32). -/
def Relistens (s : State) : Instr → ChangeCause → State → Prop
  | .ownLeaseExpiry, cause, u => cause = .ownLease ∧ s.mbu.station = .active ∧ s.mbu.ownLease.isSome ∧ u = s
  | .driveFailure, cause, u =>
    cause = .driveFailure ∧ u = s ∧
      ∃ l, (s.liu.phase = .slots ∧ s.liu.line = some l ∧ l.tallies = true) ∨ (AtVeto s l ∧ l.vetoes = true)
  | .vetoSlotEnd dominant, cause, u =>
    (∃ l, AtVeto s l ∧ l.vetoes = true) ∧ u = s ∧
      ((dominant = true ∧ 7 ≤ s.liu.vetoRun ∧ cause = .vetoRun) ∨ (dominant = false ∧ cause = .driveFailure))
  | .breakEnd, cause, u =>
    cause = .vetoRun ∧ s.liu.phase = .breaking ∧ s.liu.breakOnRecessive = true ∧ 7 ≤ s.liu.vetoRun ∧ u = s.sightingLost ∧
      ∃ l, s.liu.line = some l ∧ l.participating = true
  | .clash arbitrated, cause, u =>
    cause = .rejectionLimit ∧ s.liu.phase = .send ∧
      ∃ e f, s.txq.flying = some e ∧ e.flight = some f ∧ 15 ≤ clashCount s arbitrated e ∧ u = discardClaim s e f
  | .frameRejected _, cause, u =>
    cause = .rejectionLimit ∧ s.liu.phase = .slots ∧ 15 ≤ s.liu.rejections ∧
      (∃ l, s.liu.line = some l ∧ l.own.isSome ∧ l.veto = some true) ∧
      ∃ e f, s.txq.flying = some e ∧ e.flight = some f ∧ u = discardClaim s.sightingLost e f
  | _, _, _ => False

/-- R142: the SPD duty is 0 whenever STOP is asserted or the route engine is not MOVING. -/
def SpeedCapLaw (s : State) : Prop :=
  s.mou.stop = true ∨ s.rte.state ≠ .moving → s.mou.current = 0 ∧ s.mou.next = 0

/-- R191: at most 16 notices wait, and the overflow count is a saturated byte. -/
def NoticeLaw (s : State) : Prop := s.dpt.notices.length ≤ 16 ∧ s.dpt.overflow ≤ 255

/-- R39: this station drives no bit of a frame outside ANNOUNCE and ACTIVE: it participates in none. -/
def TracklineLaw (s : State) : Prop := ∀ f, s.liu.line = some f → f.participating = true → s.online = true

/-- R72: at most one entry of each identity, and none outside ANNOUNCE and ACTIVE. -/
def QueueLaw (s : State) : Prop :=
  (s.txq.entries.map (·.key)).Nodup ∧ (s.online = false → s.txq.entries = [])

/-- R72, R73: the argument set of an entry is of the entry's kind. -/
def fitsKey : EntryKey → Args → Bool
  | .beacon, .beacon => true
  | .claim, .claim _ _ _ => true
  | .release, .segs _ | .clear, .segs _ | .guard, .segs _ => true
  | .lapse, .stations _ => true
  | .lie _, .lie _ _ => true
  | _, _ => false

/-- R72 to R74: every argument set of the transmit queue, pending additions among them, is of its entry's kind. -/
def ArgsLaw (s : State) : Prop :=
  ∀ e ∈ s.txq.entries, fitsKey e.key e.args = true ∧
    ∀ f p, e.flight = some f → f.pending = some p → fitsKey e.key p.args = true

/-- R64, R65: a beacon's holdings list has at most 12 entries. -/
def beaconShort : Payload → Bool
  | .beacon _ _ held _ _ => decide (held.length ≤ 12)
  | _ => true

/-- R19: no station holds more than 12 segments in the table, nor in the frame on the line. -/
def HoldLaw (s : State) : Prop :=
  (∀ k, holdCount s.ctu k ≤ 12) ∧
    ∀ f, s.liu.line = some f →
      (∀ o, f.own = some o → beaconShort o.payload = true) ∧
        ∀ r p, f.received = some r → r.content = some p → beaconShort p = true

/-- R135: with STOP released every committed step is valid. -/
def CommittedLaw (s : State) : Prop := s.mou.stop = false → committedValid s.rte.route = true

/-- R107: the step numbers of the route queue rise. -/
def RouteLaw (s : State) : Prop := (s.rte.route.map (·.num)).Pairwise (· < ·)

/-- R107: two steps that follow each other are linked in the map through the first one's exit end and the second one's entry end. -/
def stepsLinked (map : Option TrackMap) (a b : Step) : Prop :=
  ∃ e f, a.exitEnd = some e ∧ b.entryEnd = some f ∧ (mapRec map a.seg).link e = some { seg := b.seg, endNo := f }

/-- R107, R108: the route queue holds at most 16 steps, no segment twice, every two consecutive steps are linked, and with a tail present the
front step is not the head step. -/
def RouteQueueLaw (s : State) : Prop :=
  s.rte.route.length ≤ 16 ∧ (s.rte.route.map (·.seg)).Nodup ∧ s.rte.route.IsChain (stepsLinked s.opr.map) ∧
    (s.tail.isSome = true → ∀ st, s.rte.route.head? = some st → s.head ≠ some st.seg)

/-- R106, R120, R121: what a step's flags say of the claim table: a held step's segment is shown HELD by this station, which is in
ANNOUNCE or ACTIVE, and a confirmed step is held and its required lie is the reported lie. -/
def Step.flagsTrue (s : State) (st : Step) : Prop :=
  (st.held = true → s.online = true ∧ s.ctu[st.seg].holder = some s.me) ∧
    (st.confirmed = true → st.held = true ∧ ∃ p, st.required = some p ∧ s.ctu[st.seg].reported = some (pointsLie p))

/-- R106, R108, R120, R121: the flags of steps and occupancy holds are true to the claim table, but in DUPLICATE_HALT, where they are
frozen (R109) and a carriage has STOP asserted; only a carriage past START has steps or holds. -/
def FlagLaw (s : State) : Prop :=
  (s.mbu.station = .start ∨ s.role ≠ some .carriage → s.rte.route = [] ∧ s.rte.holds = []) ∧
    (s.mbu.station = .duplicateHalt → s.role = some .carriage → s.mou.stop = true) ∧
    (s.mbu.station ≠ .duplicateHalt →
      (∀ st ∈ s.rte.route, st.flagsTrue s) ∧
        ∀ h ∈ s.rte.holds, h.held = true → s.online = true ∧ s.ctu[h.seg].holder = some s.me)

/-- R109, R112, R132, R133, R136: what the engine's state says of route, committed flags, STOP and placement reclaim, that only a carriage past
START has an engine at work, and that the current offer is for exactly the step the offer rule asks for, and absent where it asks for none. -/
def EngineLaw (s : State) : Prop :=
  (s.rte.state = .unplaced ∨ s.rte.state = .placing ∨ s.rte.state = .parked → s.rte.route = []) ∧
    (s.rte.state = .routed → s.rte.route.all (fun st => !st.committed) = true) ∧
    (s.rte.state = .halted ∨ s.rte.locatedHalted = true → s.mou.stop = true) ∧
    (s.rte.locatedHalted = true → s.rte.state = .placing) ∧
    (∀ o, s.rte.claim = some o → o.placement = true → s.rte.state = .placing) ∧
    (s.role ≠ some .carriage ∨ s.mbu.station = .start → s.rte.state = .unplaced ∧ s.rte.offer = none) ∧
    s.rte.offer.map (·.step) = s.offerable

/-- R171: a running motor's turnout shows no occupancy; a motor runs exactly while its record is MOVING. -/
def MotorLaw (s : State) : Prop :=
  ∀ r ∈ s.toc.records, (r.motor ≠ .off → s.occupied r.seg = false) ∧ (r.motor ≠ .off ↔ r.lie = .moving)

/-- R163: the records stand in owned-list order, one for each owned turnout, or there are none yet: none in START and CONFIG_FAULT
and none on a station that is no wayside. -/
def RecordLaw (s : State) : Prop :=
  (s.toc.records.map (·.seg) = s.owned ∨ s.toc.records = []) ∧ s.owned.Nodup ∧
    (s.mbu.station = .start ∨ s.mbu.station = .configFault ∨ s.role ≠ some .wayside → s.toc.records = [])

/-! ## What a step does -/

/-- R191: the notice is among those posted, in their order, from one state to another. -/
def Posts (s t : State) (n : Notice) : Prop := ∃ ns : List Notice, n ∈ ns ∧ t.dpt = ns.foldl Dpt.post s.dpt

/-- R73: the argument set names a segment. -/
def Args.names (args : Args) (seg : Seg) : Prop := ∃ set, args = .segs set ∧ segHas set seg = true

/-- R73, R74, R77: the RELEASE entry names a segment, in its set, in the items it has sent or in what waits beside them. -/
def Releases (q : Txq) (seg : Seg) : Prop :=
  ∃ e, q.find .release = some e ∧
    (e.args.names seg ∨ ∃ f p, e.flight = some f ∧ f.pending = some p ∧ p.args.names seg)

/-- R171: the record's motor runs after a step as no record of its turnout ran before it. -/
def Started (s t : State) (r : Record) : Prop :=
  r ∈ t.toc.records ∧ r.motor ≠ .off ∧ ∀ q ∈ s.toc.records, q.seg = r.seg → q.motor ≠ r.motor

/-- R54, R60, R61: the frame on the line stands at the verdict TAKEN, with these slots dominant, and is no duplicate. -/
def AtTaken (s : State) (l : LineFrame) (r : Received) (slots : StationSet) : Prop :=
  s.inReset = false ∧ s.liu.phase = .slots ∧ s.liu.line = some l ∧ l.received = some r ∧ l.veto = some false ∧
    s.option (·.quorum) ≤ stationCount (slots &&& s.roster) ∧ (frameStation r.frame = s.me → l.own.isSome)

/-- R99: a station other than this one that a taken frame shows: of the tally set, or the sender, and of the roster. -/
def SeenIn (s : State) (r : Received) (slots : StationSet) (k : Station) : Prop :=
  k ≠ s.me ∧ stationHas s.roster k = true ∧ (stationHas slots k = true ∨ frameStation r.frame = k)

/-- R88: a taken frame is no miss; a listening station learns nothing of a miss (log entry 15). -/
def Heard (s : State) (r : Received) : Prop := s.online = true ∨ r.cls ≠ .faulty

/-- R101: a taken frame that is heard is a LAPSE that names a station, by its content or, where a check failed under a good CRC, by its four bytes as
far as the roster has the station (log entry 15). -/
def NamedIn (s : State) (r : Received) (k : Station) : Prop :=
  Heard s r ∧
    ((∃ set, r.content = some (.lapse set) ∧ stationHas set k = true) ∨
      (r.content = none ∧ frameCrcGood r.frame = true ∧ r.frame.kind = BitVec.ofNat 4 (Kind.code .lapse) ∧
        ∃ b0 b1 b2 b3 : Byte, r.frame.payload = [b0, b1, b2, b3] ∧ stationHas (b0 ++ b1 ++ b2 ++ b3) k = true ∧
          stationHas s.roster k = true))

/-- R103: a taken frame that is heard is a BEACON that states a role, by its content or, where a check failed under a good CRC, by its flags byte
(log entry 15). -/
def RoleIn (s : State) (r : Received) (role : Role) : Prop :=
  Heard s r ∧
    ((∃ announce held blocked lies, r.content = some (.beacon announce role held blocked lies)) ∨
      (r.content = none ∧ frameCrcGood r.frame = true ∧ r.frame.kind = BitVec.ofNat 4 (Kind.code .beacon) ∧
        1 ≤ r.frame.sender.toNat ∧ r.frame.sender.toNat ≤ 30 ∧
        ∃ flags rest, r.frame.payload = flags :: rest ∧ role = if flags.getMsbD 1 then .wayside else .carriage))

/-- R108: the occupancy holds as the steps under the occupancy give them their flags; where no step is, with both flags clear. -/
def holdsOf (occupancy : List Seg) (steps : List Step) : List Hold :=
  occupancy.map fun seg =>
    match steps.find? fun st => st.seg == seg with
    | some st => { seg := seg, held := st.held, formerly := st.formerly }
    | none => { seg := seg, held := false, formerly := false }

/-- R171, R172: a motor start that finds the target's lock level high: the throw begins and ends in the same event, locked, or in FAILED where the
other lock level is high too. The stagger timer runs, the motor is off again, and both changes of the lie are posted and requested. -/
def EndsAtOnce (s u : State) (r : Record) (target : Points) (answer : Option Answer) : Prop :=
  ∃ lie cause left,
    (s.lockHigh r.seg (pointsOther target) = false → lie = pointsLie target ∧ left = answer ∧
      cause = if answer.any fun a => a.tag.isNone then .report else .done) ∧
    (s.lockHigh r.seg (pointsOther target) = true → lie = .failed ∧ cause = .detectorConflict ∧
      left = answer.filter fun a => a.tag.isSome) ∧
    u.toc.stagger = some (100 * s.option (·.staggerCode)) ∧
    u.toc.record r.seg = some { r with lie := lie, target := none, answer := none, motor := .off, throwTimer := none } ∧
    (∀ other, other ≠ r.seg → u.toc.record other = s.toc.record other) ∧ u.toc.inputs = s.toc.inputs ∧
    u.toc.claiming = s.toc.claiming ∧
    u.dpt = (s.dpt.post (.throwing r.seg .moving .moving)).post (.throwing r.seg lie cause) ∧
    u.txq = ((s.txRequest (.lie r.seg) (.lie .moving (answer.filter fun a => a.tag.isSome))).txRequest (.lie r.seg)
      (.lie cause left)).txq

/-- R171: from an empty start queue with the stagger timer not running, a turnout joins with a target lie and an answer part and its
motor starts at once: motor, lie, both timers, THROW and the LIE MOVING; nothing else of the controller changes. -/
def StartsAtOnce (s u : State) (r : Record) (target : Points) (answer : Option Answer) : Prop :=
  u.toc.queue = [] ∧ u.toc.stagger = some (100 * s.option (·.staggerCode)) ∧
    u.toc.record r.seg = some { r with
      lie := .moving, target := some target, answer := answer, motor := motorFor target
      throwTimer := some (1000 * s.option (·.throwTime)) } ∧
    (∀ other, other ≠ r.seg → u.toc.record other = s.toc.record other) ∧ u.toc.inputs = s.toc.inputs ∧
    u.toc.claiming = s.toc.claiming ∧ u.dpt = s.dpt.post (.throwing r.seg .moving .moving) ∧
    u.txq = (s.txRequest (.lie r.seg) (.lie .moving (answer.filter fun a => a.tag.isSome))).txq

/-! ## What the checks of a payload ask for (R64 to R71) -/

/-- R65 (2, 5): a bundle entry or holding names a defined segment, and a TURNOUT where it gives a lie. -/
def EntryPasses (map : Option TrackMap) (e : BundleEntry) : Prop :=
  (mapRec map e.seg).defined = true ∧ (e.required ≠ none → (mapRec map e.seg).isTurnout = true)

/-- R65 (6): a station from 1 to 30 that the roster has. -/
def StationPasses (roster : StationSet) (k : Station) : Prop := 1 ≤ k.val ∧ k.val ≤ 30 ∧ stationHas roster k = true

/-- R64 to R71: a payload of its layout passes at a receiver, kind by kind. -/
def PayloadPasses (map : Option TrackMap) (roster : StationSet) (sender : Station) : Payload → Prop
  | .beacon _ role held blocked lies =>
    held.length ≤ 12 ∧ lies.length ≤ 4 ∧ (∀ e ∈ held, EntryPasses map e) ∧ (held.map (·.seg)).Pairwise (· < ·) ∧
      (∀ seg, segHas blocked seg = true → (mapRec map seg).defined = true ∧ ∀ e ∈ held, e.seg ≠ seg) ∧
      (∀ e ∈ lies, (mapRec map e.seg).defined = true) ∧ (lies.map (·.seg)).Nodup ∧ (role = .carriage → lies = [])
  | .claim _ bundle | .reclaim _ bundle =>
    1 ≤ bundle.length ∧ bundle.length ≤ 6 ∧ (∀ e ∈ bundle, EntryPasses map e) ∧ (bundle.map (·.seg)).Nodup
  | .release segs | .clear segs =>
    1 ≤ segs.length ∧ segs.length ≤ 12 ∧ (∀ seg ∈ segs, (mapRec map seg).defined = true) ∧ segs.Pairwise (· < ·)
  | .guard segs =>
    1 ≤ segs.length ∧ segs.length ≤ 4 ∧ (∀ seg ∈ segs, (mapRec map seg).owner = some sender) ∧ segs.Pairwise (· < ·)
  | .lapse set => set ≠ 0 ∧ ∀ k, stationHas set k = true → StationPasses roster k
  | .lie seg _ _ answer =>
    (mapRec map seg).defined = true ∧ ∀ claimant tag, answer = some (claimant, tag) → StationPasses roster claimant

/-! ## What the checks of the option store ask for (R196 to R198, R11 to R13) -/

/-- R63, R196: the roster as its four bytes in the store give it. -/
def storeRoster (store : List Byte) : StationSet :=
  store.getD 6 0xFF ++ store.getD 7 0xFF ++ store.getD 8 0xFF ++ store.getD 9 0xFF

/-- R196: the kind of a segment by its map record; ABSENT without a record. -/
def storeKind (store : List Byte) (seg : Seg) : Nat :=
  if seg.val < storeByte store 2 then storeByte store (38 + 8 * seg.val) else 0

/-- R2, R196: an end that the segment's kind has is linked to an end of another segment. -/
def StoreLinks (store : List Byte) (seg : Seg) (e : Nat) (other : Seg) (f : Nat) : Prop :=
  e < kindEnds (storeKind store seg) ∧ storeByte store (38 + 8 * seg.val + 4 + e) ≠ 255 ∧ f < 4 ∧
    storeByte store (38 + 8 * seg.val + 4 + e) = 4 * other.val + f

/-- R11: what the structural checks ask of the map records. -/
def StoreStructure (store : List Byte) : Prop :=
  (∀ seg, storeKind store seg ≤ 3) ∧
    (∃ a b : Seg, a ≠ b ∧ storeKind store a ≠ 0 ∧ storeKind store b ≠ 0) ∧
    (∀ seg e other f, StoreLinks store seg e other f →
      storeKind store other ≠ 0 ∧ f < kindEnds (storeKind store other) ∧ other ≠ seg ∧ StoreLinks store other f seg e) ∧
    ∀ seg : Seg, storeKind store seg = 3 → storeByte store (38 + 8 * seg.val + 1) % 2 = 0

/-- R197, R198, R200, R11 to R13: the checks of the store in the order they are made, each with its fault. -/
def storeChecks (store : List Byte) : List (ConfigFault × Prop) :=
  let byte := storeByte store
  let word := storeWord store
  let triple := storeTriple store
  let carriage := byte 5 = 0
  let roster := storeRoster store
  let field := fun (seg : Seg) (i : Nat) => 38 + 8 * seg.val + i
  [(.badFormat, byte 0 = 1 ∧ byte 1 = 32 ∧ 2 ≤ byte 2 ∧ byte 2 ≤ 64 ∧ byte 3 = 0),
    (.badCrc, (crcBytes (storeBytes store 4 32)).toNat = word 36),
    (.badStation, 1 ≤ byte 4 ∧ byte 4 ≤ 30 ∧ byte 5 ≤ 1 ∧ stationHas roster 0 = false ∧ stationHas roster 31 = false ∧
      ∀ k : Station, k.val = byte 4 → stationHas roster k = true),
    (.badFormat, byte 11 ≤ 3 ∧ 1 ≤ byte 12 ∧ byte 12 ≤ 20 ∧
      (carriage → 1 ≤ word 13 ∧ word 13 ≤ 4095 ∧ 1 ≤ byte 15 ∧ byte 15 ≤ 12 ∧ 1 ≤ byte 16 ∧ byte 16 ≤ 20 ∧ 1 ≤ byte 17 ∧
        byte 17 ≤ 15 ∧ word 18 ≤ 4095 ∧ 1 ≤ byte 20 ∧ byte 33 ≤ 1) ∧
      (¬carriage → 1 ≤ byte 34 ∧ byte 34 ≤ 15 ∧ 1 ≤ byte 35 ∧ byte 35 ≤ 15)),
    (.badQuorum, stationCount roster / 2 + 1 ≤ byte 10 ∧ byte 10 ≤ stationCount roster),
    (.badSpeed, carriage → 0 < triple 21 ∧ triple 21 < triple 24 ∧ triple 24 < triple 27 ∧ byte 30 ≤ byte 31 ∧
      byte 31 ≤ byte 32 ∧ byte 32 ≤ 16),
    (.badCrc, (crcBytes (storeBytes store 38 (8 * byte 2))).toNat = word (38 + 8 * byte 2)),
    (.badMap, StoreStructure store),
    (.badLengths, ∀ seg, storeKind store seg ≠ 0 →
      0 < word (field seg 2) ∧ (carriage → word 13 ≤ word (field seg 2))),
    (.badOwner, (∀ seg, storeKind store seg = 3 → 1 ≤ byte (field seg 7) ∧ byte (field seg 7) ≤ 30 ∧
        (∀ k : Station, k.val = byte (field seg 7) → stationHas roster k = true) ∧ (carriage → byte (field seg 7) ≠ byte 4)) ∧
      ∀ n, (allSegs.filter fun seg => storeKind store seg == 3 && byte (field seg 7) == n).length ≤ 4)]

/-- R200: the first check that fails names the fault. -/
def FirstFailing (checks : List (ConfigFault × Prop)) (fault : ConfigFault) : Prop :=
  ∃ before failed after, checks = before ++ (fault, failed) :: after ∧ ¬failed ∧ ∀ c ∈ before, c.2

end Sys2Proof.Machine
end

