-- ==== Sys2Proof/WellFormed.lean ====
section
/-! DEFINITION. Which operand values an event or a command message can carry. The meanings are total: this check shapes
the statements and tests, and no meaning rests on it. -/
namespace Sys2Proof

/-- A frame's payload has the number of bytes its length field gives (R63). -/
def Frame.wellFormed (f : Frame) : Bool := f.payload.length == f.length.toNat

/-- Only slots 1 to 30 exist (R53). -/
def slotsWellFormed (slots : StationSet) : Bool := !slots.getMsbD 0 && !slots.getMsbD 31

/-- The operands an event of the part or a message of the drive port can carry. -/
def Instr.wellFormed : Instr → Bool
  | .frameClassify frame => frame.wellFormed
  | .frameRejected slots | .beaconTaken slots | .claimTaken slots | .reclaimTaken slots | .releaseTaken slots
  | .lapseTaken slots | .clearTaken slots | .guardTaken slots | .lieTaken slots => slotsWellFormed slots
  | .remoteLeaseExpiry peer => decide (1 ≤ peer.val) && decide (peer.val ≤ 30)
  | .lieWaitExpiry step => decide (step < 16)
  | .tagReceived start _ _ => !start
  | .invalidCommand message => (commandOf message).isNone
  | .clearCommand segments => decide (1 ≤ segments.length) && decide (segments.length ≤ 12)
  | .loadRoute segments => decide (1 ≤ segments.length) && decide (segments.length ≤ 16)
  | .possess segments => decide (1 ≤ segments.length) && decide (segments.length ≤ 6)
  | .reset | .resetRelease | .storeRetryWait | .clockStretchTimeout | .optionReadEnd _ _
  | .detectorSettleEnd _ _ _ _ | .settleTimeout _ _ _ _ | .lineIdle | .transmitStart | .frameStartReceived
  | .arbitrationLost | .clash _ | .stuffError _ | .breakEnd | .vetoSlotEnd _ | .driveFailure
  | .listenTimerExpiry | .listenLimitExpiry | .ownLeaseExpiry | .beaconTimerExpiry | .holdOffExpiry
  | .keepTimerExpiry | .spdPeriodStart | .odometerCount | .lockLevelChange _ _ _ | .throwTimerExpiry _
  | .occupancyChange _ _ | .staggerExpiry | .busyTransaction | .status | .notice | .readEntry _ | .readPeer _
  | .locate _ _ _ | .cancel | .take _ | .resume | .docked | .keep | .unpossess | .throw _ _
  | .filteredOdometerFall => true

end Sys2Proof
end

