-- ==== Sys2Proof/Certificates/Slice0/Obligations.lean ====
section
/-! DEFINITION. The statements for the provers: the queue and the step, then block by block in the order of the data book, then the laws
that every step keeps. -/

open Sys2Proof
open Sys2Proof.Machine

/-! ## The queue and the step -/

/-- A step takes the command at the front of the queue and runs it on the state with the queue's rest. -/
def Obligations.StepRunsFront : Prop :=
  ∀ (c : Instr) (s : State) (rest : List Instr), step (s.setPending (c :: rest)) = exec c (s.setPending rest)

/-- On an empty queue a step is one millisecond of the running timers (the model's choice, log entry 1). -/
def Obligations.EmptyQueueStepIsAMillisecond : Prop :=
  ∀ s : State, s.pending = [] → s.inReset = false →
    step s = .next
      ((((s.setMbu { s.mbu with
            listen := s.mbu.listen.map fun l => { l with timer := l.timer.map (· - 1), limit := l.limit - 1 }
            ownLease := s.mbu.ownLease.map (· - 1)
            beacon := s.mbu.beacon.map (· - 1)
            peers := tab fun k => { s.mbu.peers[k] with lease := s.mbu.peers[k].lease.map (· - 1) } }).setRte
          { s.rte with
            route := s.rte.route.map fun st => { st with lieWait := st.lieWait.map (· - 1) }
            holdOff := s.rte.holdOff.map (· - 1) }).setMou
          { s.mou with keep := s.mou.keep.map (· - 1) }).setToc
          { s.toc with
            records := s.toc.records.map fun r => { r with throwTimer := r.throwTimer.map (· - 1) }
            stagger := s.toc.stagger.map (· - 1)
            settleLimit := s.toc.settleLimit.map (· - 1) })

/-- No command stops the part; each leaves the queue of what waits, and every block it does not concern, as they were. -/
def Obligations.CommandsKeepOtherBlocks : Prop :=
  ∀ (i : Instr) (s : State),
    (i = .reset ∨ i = .resetRelease → ∃ t, exec i s = .next t ∧ t.pending = s.pending) ∧
      (i ≠ .reset → i ≠ .resetRelease → ∃ t, exec i s = .next t ∧ SameBut (mayChange i) s t)

/-! ## Reset and START (R194 to R200) -/

/-- The state right after the release of reset: every value the data book states for it. -/
def Obligations.ResetState : Prop :=
  State.reset.inReset = false ∧
    State.reset.mbu.station = .start ∧ State.reset.mbu.cause = .none ∧ State.reset.mbu.joinCount = 0 ∧
    State.reset.mbu.listen = none ∧ State.reset.mbu.lastConflict = 0 ∧ State.reset.mbu.sighting = none ∧
    State.reset.mbu.ownLease = none ∧ State.reset.mbu.beacon = none ∧
    (∀ k : Station, State.reset.mbu.peers[k] = { presence := .absent, role := none, lease := none, foreign := false }) ∧
    State.reset.opr.options = none ∧ State.reset.opr.map = none ∧ State.reset.opr.fault = none ∧
    State.reset.opr.reading = true ∧ State.reset.opr.failures = 0 ∧
    (∀ i : Seg, State.reset.ctu[i] = { claim := .free, reported := none }) ∧
    State.reset.liu.phase = .off ∧ State.reset.liu.line = none ∧ State.reset.liu.vetoRun = 0 ∧
    State.reset.liu.rejections = 0 ∧ State.reset.liu.counted = none ∧ State.reset.txq.entries = [] ∧
    State.reset.rte.state = .unplaced ∧ State.reset.rte.route = [] ∧ State.reset.rte.holds = [] ∧
    State.reset.rte.serial = 0 ∧ State.reset.rte.tagCounter = 0 ∧ State.reset.rte.misses = 0 ∧
    State.reset.rte.claim = none ∧ State.reset.rte.holdOff = none ∧
    State.reset.rte.offer = none ∧ State.reset.rte.committedLimit = none ∧
    State.reset.mou = { stop := true, stopCause := .reset, current := 0, next := 0, keep := none } ∧
    State.reset.pos = { place := none, fault := none, odometer := false, receiver := .idle, badTags := 0 } ∧
    State.reset.toc.records = [] ∧ State.reset.toc.queue = [] ∧ State.reset.toc.stagger = none ∧
    State.reset.toc.settled = false ∧ State.reset.toc.claiming = false ∧
    State.reset.dpt.notices = [] ∧ State.reset.dpt.overflow = 0 ∧
    State.reset.dpt.reply = { status := .empty, data := [] } ∧ State.reset.ntc = false

/-- RESET holds the part at its power-up values, and RESET_RELEASE begins START with the read under way (R194). The last two clauses, that
RESET_RELEASE with no reset held changes nothing and that no other command does anything while reset is held, are the model's choice (log
entry 2). -/
def Obligations.ResetHoldsAndReleaseStarts : Prop :=
  (∀ s : State, exec .reset s =
      .next { State.reset with inReset := true, opr := { State.reset.opr with reading := false }, pending := s.pending }) ∧
    (∀ s : State, s.inReset = true → exec .resetRelease s = .next { State.reset with pending := s.pending }) ∧
    (∀ s : State, s.inReset = false → exec .resetRelease s = .next s) ∧
    ∀ (i : Instr) (s : State), s.inReset = true → i ≠ .reset → i ≠ .resetRelease → exec i s = .next s

/-- The read of START fails: a failed attempt is counted, the third is NO_STORE, a long stretch is NO_STORE, a bad store gives its fault;
each fault enters CONFIG_FAULT with its LINK notice and nothing installed. R197, R198, R11 to R13: a store gives the fault of the first check
that fails in it, the checks taken in their order. -/
def Obligations.FailedReadsEnterConfigFault : Prop :=
  (∀ (store : List Byte) (fault : ConfigFault), readStore store = .error fault ↔ FirstFailing (storeChecks store) fault) ∧
  ∀ (s : State) (fault : ConfigFault) (store : List Byte) (odo : Bool),
    s.inReset = false → s.mbu.station = .start → s.opr.reading = true →
      (s.opr.failures < 2 → exec .storeRetryWait s = .next (s.setOpr { s.opr with failures := s.opr.failures + 1 })) ∧
      (s.opr.failures = 2 → exec .storeRetryWait s =
        .next (((s.setOpr { s.opr with failures := 3, reading := false, fault := some .noStore }).setMbu
          { s.mbu with station := .configFault, cause := .config }).post (.link .configFault .config))) ∧
      exec .clockStretchTimeout s =
        .next (((s.setOpr { s.opr with reading := false, fault := some .noStore }).setMbu
          { s.mbu with station := .configFault, cause := .config }).post (.link .configFault .config)) ∧
      (readStore store = .error fault → exec (.optionReadEnd store odo) s =
        .next (((s.setOpr { s.opr with reading := false, fault := some fault }).setMbu
          { s.mbu with station := .configFault, cause := .config }).post (.link .configFault .config)))

/-- A good store is installed whole. A CARRIAGE leaves START for LISTEN at once, a WAYSIDE when its settle has ended or nothing is to
settle; else the settle limit starts. The odometer level that the row carries is set without a count (log entry 8). R196, R199, R5: a good
store is one that every check passes, and it gives the options and the map, with its fingerprint and owned list, that its bytes say. -/
def Obligations.GoodStoreIsInstalled : Prop :=
  (∀ store : List Byte, (∃ o m, readStore store = .ok (o, m)) ↔ ∀ c ∈ storeChecks store, c.2) ∧
  (∀ (store : List Byte) (o : Options) (m : TrackMap), readStore store = .ok (o, m) →
    let byte := storeByte store
    o.station.val = byte 4 ∧
      o = { station := o.station, role := if byte 5 = 0 then .carriage else .wayside, roster := storeRoster store,
            quorum := byte 10, bitRate := byte 11, bpCode := byte 12, carriageLength := storeWord store 13,
            claimAhead := byte 15, keepCode := byte 16, lieWait := byte 17, overrunMargin := storeWord store 18,
            creepLimit := byte 20, t1 := storeTriple store 21, t2 := storeTriple store 24, t3 := storeTriple store 27,
            l0 := byte 30, l1 := byte 31, l2 := byte 32, odoFilter := if byte 33 = 0 then .short else .long,
            staggerCode := byte 34, throwTime := byte 35 } ∧
      m.fingerprint = crcBytes (storeBytes store 38 (8 * byte 2)) ∧
      m.owned = (allSegs.filter fun seg => storeKind store seg == 3 && byte (38 + 8 * seg.val + 7) == byte 4) ∧
      ∀ seg : Seg,
        (m.segs[seg].defined = true ↔ storeKind store seg ≠ 0) ∧ (m.segs[seg].isTurnout = true ↔ storeKind store seg = 3) ∧
          (m.segs[seg].isRefuge = true ↔
            storeKind store seg = 2 ∨ (storeKind store seg = 1 ∧ byte (38 + 8 * seg.val + 1) % 2 = 1)) ∧
          (storeKind store seg ≠ 0 → m.segs[seg].length = storeWord store (38 + 8 * seg.val + 2)) ∧
          (storeKind store seg = 3 → m.segs[seg].owner.map (·.val) = some (byte (38 + 8 * seg.val + 7))) ∧
          ∀ (e f : EndNo) (other : Seg),
            m.segs[seg].link e = some { seg := other, endNo := f } ↔ StoreLinks store seg e.val other f.val) ∧
  ∀ (s : State) (store : List Byte) (odo : Bool) (o : Options) (m : TrackMap),
    s.inReset = false → s.mbu.station = .start → s.opr.reading = true → readStore store = .ok (o, m) →
      ∃ t, exec (.optionReadEnd store odo) s = .next t ∧
        t.opr = { s.opr with reading := false, failures := 0, options := some o, map := some m } ∧
        t.ctu = clearTable (some m) ∧ t.txq = s.txq ∧ t.rte = s.rte ∧ t.mou = s.mou ∧ t.pending = s.pending ∧
        t.toc.queue = s.toc.queue ∧ t.toc.inputs = s.toc.inputs ∧
        (o.role = .carriage → t.pos = { s.pos with odometer := odo }) ∧ (o.role = .wayside → t.pos = s.pos) ∧
        (o.role = .carriage ∨ s.toc.settled = true ∨ m.owned = [] →
          t.mbu = { s.mbu with
            station := .listen
            cause := .startDone
            listen := some { timer := some (7 * (50 * o.bpCode)), limit := 21 * (50 * o.bpCode), served := false,
                             heard := false, agreed := false }
            peers := tabSet s.mbu.peers o.station { s.mbu.peers[o.station] with role := some o.role } } ∧
          t.toc.records = (m.owned.map fun seg => startRecord seg (t.inputsOf seg)) ∧
          t.toc.stagger = (if o.role = .wayside then some (100 * o.staggerCode) else none) ∧
          t.liu = { s.liu with phase := .seek, recessive := 0, line := none } ∧
          t.dpt = s.dpt.post (.link .listen .startDone)) ∧
        (o.role = .wayside → s.toc.settled = false → m.owned ≠ [] →
          t.mbu = s.mbu ∧ t.liu = s.liu ∧ t.dpt = s.dpt ∧ t.toc = { s.toc with settleLimit := some 1000 })

/-- The settle ends: the levels are kept; on a WAYSIDE whose store is installed one record is made for each owned turnout, in owned-list
order, with the lie of its lock detectors (R165) and its motor off, the stagger timer starts and the station enters LISTEN. -/
def Obligations.SettleMakesTheRecords : Prop :=
  (∀ (s : State) (i : Instr) (inputs : Vector Inputs 4), s.inReset = false → s.mbu.station = .start → s.toc.settled = false →
    (∃ p1 p2 p3 p4, i = .detectorSettleEnd p1 p2 p3 p4 ∧
        inputs = ⟨#[inputsOfLevels p1, inputsOfLevels p2, inputsOfLevels p3, inputsOfLevels p4], rfl⟩) ∨
      (∃ p1 p2 p3 p4, i = .settleTimeout p1 p2 p3 p4 ∧ s.toc.settleLimit.isSome = true ∧
        inputs = ⟨#[inputsAtLimit p1, inputsAtLimit p2, inputsAtLimit p3, inputsAtLimit p4], rfl⟩) →
    (s.role ≠ some .wayside →
      exec i s = .next (s.setToc { s.toc with inputs := inputs, settled := true, settleLimit := none })) ∧
    ∀ (o : Options) (m : TrackMap), s.opr.options = some o → o.role = .wayside → s.opr.map = some m →
      ∃ t, exec i s = .next t ∧
        t.toc = { s.toc with
          inputs := inputs
          settled := true
          settleLimit := none
          records := m.owned.map fun seg => startRecord seg (t.inputsOf seg)
          stagger := some (100 * o.staggerCode) } ∧
        t.mbu.station = .listen ∧ t.mbu.cause = .startDone ∧ t.mbu.joinCount = s.mbu.joinCount ∧
        t.mbu.ownLease = s.mbu.ownLease ∧ t.mbu.beacon = s.mbu.beacon ∧
        t.liu = { s.liu with phase := .seek, recessive := 0, line := none } ∧ t.dpt = s.dpt.post (.link .listen .startDone)) ∧
  ∀ i : Inputs,
    (i.normalLock.settled = false ∨ i.reverseLock.settled = false → startLie i = .failed) ∧
    (i.normalLock.settled = true → i.reverseLock.settled = true →
      startLie i =
        match i.normalLock.level, i.reverseLock.level with
        | true, false => .normal
        | false, true => .reverse
        | false, false => .unknown
        | true, true => .failed)

/-! ## The line unit (R41 to R62) -/

/-- The idle gap makes the line idle. A start bit that finds a choice on an idle line starts this station's own frame, at its own start bit or
at another's: the entry goes in flight with its sent items, and the frame carries this station's number, the fingerprint, the digest and the
payload as the tables stand. Any other start bit is another station's frame; this station takes part in ANNOUNCE and ACTIVE alone. -/
def Obligations.LineIdleAndStarts : Prop :=
  ∀ s : State, s.inReset = false →
    (s.liu.phase = .seek → exec .lineIdle s = .next (s.setLiu { s.liu with phase := .idle, recessive := 12 })) ∧
    ((s.liu.phase = .idle ∧ s.choice = none) ∨ s.liu.phase = .seek →
      exec .frameStartReceived s = .next (s.setLiu { s.liu with
        phase := .receive
        line := some { participating := s.online, own := none, received := none, veto := none } })) ∧
    ∀ (e : TxEntry) (i : Instr), s.liu.phase = .idle → s.online = true → s.txq.choice = some e →
      i = .transmitStart ∨ i = .frameStartReceived →
        exec i s = .next
          ((s.setTxq (s.txq.replace e.key (some { e with
              args := sentArgs e.key e.args, flight := some { pending := leftOver e, withdrawn := false } }))).setLiu
            { s.liu with
              phase := .send
              line := some
                { participating := true
                  own := some
                    { identity := e.identity, payload := s.payloadOf e
                      frame := sealFrame s.me (mapFingerprint s.opr.map) (digest s.ctu) (s.payloadOf e) }
                  received := none
                  veto := none } })

/-- R75, R76: the choice is an entry not in flight that no other waiting entry goes before; a beacon states this station's holdings, the
blocked set and on a wayside the lie of every owned turnout; a RELEASE or CLEAR carries the twelve lowest segments of its set; a CLAIM or
RECLAIM its bundle and tag, a LAPSE its stations, a GUARD its segments, and a LIE the lie state of its record with the cause and answer part
of its request, the tag byte 0 where the part has no tag. -/
def Obligations.ChoiceAndPayload : Prop :=
  (∀ q : Txq,
    (q.choice = none ↔ ∀ e ∈ q.entries, e.inFlight = true) ∧
    ∀ e, q.choice = some e →
      e ∈ q.entries ∧ e.inFlight = false ∧ ∀ f ∈ q.entries, f.inFlight = false →
        e.key.urgency < f.key.urgency ∨ (e.key.urgency = f.key.urgency ∧ e.age ≤ f.age)) ∧
  ∀ (s : State) (age : Nat) (set : SegSet) (stations : StationSet) (bundle : List BundleEntry) (tag : Tag) (seg : Seg)
    (cause : LieCause) (a : Answer),
    s.payloadOf { key := .beacon, args := .beacon, age := age, flight := none } =
      .beacon (s.mbu.station == .announce) (s.role.getD .carriage) (holdings s.ctu s.me) (blockedSet s.ctu)
        (if s.isWayside then s.owned.map fun seg => { seg := seg, lie := s.toc.lieOf seg } else []) ∧
    s.payloadOf { key := .release, args := .segs set, age := age, flight := none } = .release ((segList set).take 12) ∧
    s.payloadOf { key := .clear, args := .segs set, age := age, flight := none } = .clear ((segList set).take 12) ∧
    s.payloadOf { key := .claim, args := .claim false bundle tag, age := age, flight := none } = .claim tag bundle ∧
    s.payloadOf { key := .claim, args := .claim true bundle tag, age := age, flight := none } = .reclaim tag bundle ∧
    s.payloadOf { key := .lapse, args := .stations stations, age := age, flight := none } = .lapse stations ∧
    s.payloadOf { key := .guard, args := .segs set, age := age, flight := none } = .guard (segList set) ∧
    s.payloadOf { key := .lie seg, args := .lie cause none, age := age, flight := none } =
      .lie seg (s.toc.lieOf seg) cause none ∧
    s.payloadOf { key := .lie seg, args := .lie cause (some a), age := age, flight := none } =
      .lie seg (s.toc.lieOf seg) cause (some (a.claimant, a.tag.getD 0))

/-- A lost arbitration gives the entry back as it was, with the rejection count unchanged, and the frame is received from there on. A clash
gives it back and raises the count, up to the limit of sixteen; the rest of the frame is received without driving. The count is from 0 where
the clashed frame had passed arbitration for an entry not counted (the table has no row for the end of arbitration, so the model moves the
count at the clash; it counts no clash with nothing in flight: log entry 12). An entry is identified by its kind, CLAIM and RECLAIM being two
(DEDUCED, log entry 31), and a LIE by its turnout too. A withdrawn claim is discarded instead of given back, and its requester is told. A clash is
taken at the stuff bit after the sender's last CRC bit too: the model's choice (log entry 30). -/
def Obligations.ArbitrationLostAndClash : Prop :=
  (∀ (args : Args) (bundle : List BundleEntry) (tag : Tag) (seg : Seg) (age : Nat) (flight : Option Flight),
    let identity := fun (key : EntryKey) (args : Args) =>
      TxEntry.identity { key := key, args := args, age := age, flight := flight }
    identity .claim (.claim false bundle tag) = { kind := .claim, turnout := none } ∧
    identity .claim (.claim true bundle tag) = { kind := .reclaim, turnout := none } ∧
    identity (.lie seg) args = { kind := .lie, turnout := some seg } ∧
    identity .beacon args = { kind := .beacon, turnout := none } ∧
    identity .release args = { kind := .release, turnout := none } ∧
    identity .lapse args = { kind := .lapse, turnout := none } ∧
    identity .clear args = { kind := .clear, turnout := none } ∧
    identity .guard args = { kind := .guard, turnout := none }) ∧
  ∀ (s : State) (l lost clashed : LineFrame) (arbitrated : Bool), s.inReset = false → s.liu.phase = .send → s.liu.line = some l →
    lost = { l with own := none } → clashed = { l with own := none, participating := false } →
    (l.received.isSome → exec .arbitrationLost s = .next s) ∧
    (s.txq.flying = none →
      (l.received = none →
        exec .arbitrationLost s = .next (s.setLiu { s.liu with phase := .receive, line := some lost })) ∧
      exec (.clash arbitrated) s = .next (s.setLiu { s.liu with phase := .receive, line := some clashed })) ∧
    ∀ (e : TxEntry) (f : Flight) (count : Nat) (counted : Option SendId), s.txq.flying = some e → e.flight = some f →
      count = clashCount s arbitrated e →
      counted = (if arbitrated = true then some e.identity else s.liu.counted) →
      (f.withdrawn = false →
        (l.received = none →
          exec .arbitrationLost s = .next
            ((s.setTxq (s.txq.replace e.key (some (e.mergedBack f)))).setLiu
              { s.liu with phase := .receive, line := some lost })) ∧
        (count < 15 →
          exec (.clash arbitrated) s = .next
            ((s.setTxq (s.txq.replace e.key (some (e.mergedBack f)))).setLiu
              { s.liu with phase := .receive, line := some clashed, counted := counted, rejections := count + 1 }))) ∧
      (15 ≤ count → s.online = true →
        ∃ t, exec (.clash arbitrated) s = .next t ∧ t.mbu.station = .listen ∧ t.mbu.cause = .rejectionLimit ∧ t.txq.entries = [] ∧
          t.liu.rejections = 0 ∧ t.liu.vetoRun = 0 ∧ t.ctu = clearTable s.opr.map) ∧
      (f.withdrawn = true → s.role = some .wayside →
        (l.received = none →
          exec .arbitrationLost s = .next
            (((s.setTxq (s.txq.replace e.key none)).setLiu { s.liu with phase := .receive, line := some lost }).setToc
              { s.toc with claiming := false })) ∧
        (count < 15 →
          exec (.clash arbitrated) s = .next
            (((s.setTxq (s.txq.replace e.key none)).setLiu
              { s.liu with phase := .receive, line := some clashed, counted := counted, rejections := count + 1 }).setToc
              { s.toc with claiming := false }))) ∧
      (f.withdrawn = true → s.role = some .carriage → s.rte.claim.isSome →
        (l.received = none →
          exec .arbitrationLost s = .next
            (((s.setTxq (s.txq.replace e.key none)).setLiu { s.liu with phase := .receive, line := some lost }).setRte
              { s.rte with claim := none }).settle) ∧
        (count < 15 →
          exec (.clash arbitrated) s = .next
            (((s.setTxq (s.txq.replace e.key none)).setLiu
              { s.liu with phase := .receive, line := some clashed, counted := counted, rejections := count + 1 }).setRte
              { s.rte with claim := none }).settle))

/-- A stuff error: a participant drives the break; another station gives the frame up and counts on from the run of seven: so at the stuff bit after
the last CRC bit too, where the frame is classified already: the model's choice (log entry 11). After a break the idle gap is sought anew, and the veto-run count rises for
a participant's break on seven recessive bits. -/
def Obligations.StuffErrorsAndBreaks : Prop :=
  ∀ (s : State) (l : LineFrame) (recessive : Bool), s.inReset = false → s.liu.line = some l →
    (s.liu.phase = .receive → l.participating = true →
      exec (.stuffError recessive) s = .next (s.setLiu { s.liu with phase := .breaking, breakOnRecessive := recessive })) ∧
    (s.liu.phase = .receive → l.participating = false →
      exec (.stuffError recessive) s = .next (s.setLiu { s.liu with
        phase := .seek, recessive := if recessive then 7 else 0, line := none }).sightingLost) ∧
    (s.liu.phase = .breaking → (l.participating = true → s.liu.breakOnRecessive = true → s.liu.vetoRun < 7) →
      exec .breakEnd s = .next (((s.setLiu { s.liu with phase := .seek, recessive := 0, line := none }).sightingLost).setLiu
        { s.liu with
          phase := .seek
          recessive := 0
          line := none
          vetoRun := if l.participating = true ∧ s.liu.breakOnRecessive = true then s.liu.vetoRun + 1 else s.liu.vetoRun }))

/-- At the end of the CRC a receiver keeps the frame with its class and content; a participant that finds another's frame GOOD sets its
veto-run count to 0, a FOREIGN frame leaves a sighting of its sender, and a sender finds its own frame GOOD. The class goes by the CRC, the
fingerprint, the checks of the content and, outside LISTEN, the digest. A participating sender's rejection count restarts here for an entry
not counted: R59 puts that at the end of arbitration, for which the table has no row (log entry 12). R44, R61: the slots come next, but where a stuff bit
follows the last CRC bit the line unit stays in SEND or RECEIVE for it. A frame is classified once. R50, R63 to R71: a frame has a content when its CRC,
kind, urgency, sender and length are good and its payload is, bit for bit, that of a content which passes the checks of its kind. -/
def Obligations.FramesAreClassified : Prop :=
  (∀ (map : Option TrackMap) (roster : StationSet) (f : Frame) (p : Payload), frameContent map roster f = some p ↔
    frameCrcGood f = true ∧ StationPasses roster (frameStation f) ∧ f.payload.length = f.length.toNat ∧
      f.kind.toNat = p.kind.code ∧ f.urgency.toNat = p.kind.urgency ∧ f.payload = payloadBytes p ∧
      PayloadPasses map roster (frameStation f) p) ∧
  ∀ (s : State) (l : LineFrame) (f : Frame),
    (s.inReset = false → s.liu.line = some l → l.received.isSome → exec (.frameClassify f) s = .next s) ∧
    (s.inReset = false → s.liu.line = some l → l.received = none → s.liu.phase = .receive →
      exec (.frameClassify f) s = .next
        ((s.setLiu { s.liu with
            phase := if stuffBitFollows f then .receive else .slots
            line := some
              { l with received := some { frame := f, cls := s.classOf f, content := frameContent s.opr.map s.roster f } }
            vetoRun := if s.classOf f = .good ∧ l.participating = true then 0 else s.liu.vetoRun }).setMbu
          { s.mbu with sighting := if s.classOf f = .foreign then some (frameStation f) else s.mbu.sighting })) ∧
    (∀ own, s.inReset = false → s.liu.line = some l → l.received = none → s.liu.phase = .send → l.own = some own →
      exec (.frameClassify f) s = .next (s.setLiu { s.liu with
        phase := if stuffBitFollows own.frame then .send else .slots
        line := some { l with received := some { frame := own.frame, cls := .good, content := some own.payload } }
        counted := if l.participating = true then some own.identity else s.liu.counted
        rejections :=
          if l.participating = true ∧ s.liu.counted ≠ some own.identity then 0 else s.liu.rejections })) ∧
    (frameCrcGood f = true → f.fingerprint ≠ mapFingerprint s.opr.map → s.classOf f = .foreign) ∧
    (f.fingerprint = mapFingerprint s.opr.map → (frameContent s.opr.map s.roster f).isSome →
      s.mbu.station = .listen ∨ f.digest = digest s.ctu → s.classOf f = .good) ∧
    (frameCrcGood f = false → s.classOf f = .faulty) ∧
    (f.fingerprint = mapFingerprint s.opr.map → frameContent s.opr.map s.roster f = none → s.classOf f = .faulty) ∧
    (f.fingerprint = mapFingerprint s.opr.map → s.mbu.station ≠ .listen → f.digest ≠ digest s.ctu →
      s.classOf f = .faulty)

/-- The veto slot is read; a station that drove a veto counts it, below the limit of eight. No row tells the end of a stuff bit after the CRC: where one
is on the line, SLOTS is entered with this reading (DEDUCED, log entry 11). R38, R39, R61: the output TLO phase by phase. It is off
but for the own start bit of an idle station with a choice, which is on the line; for the stuffed bits of the own frame, a dominant bit being logic 0, to
the stuff bit that may follow its CRC; for the eight bits of a participant's break; for the two of its veto of another's frame; and for the tally slot
that bears its number, of a GOOD frame that met no veto. Off the line it drives nothing, but a frame of its own to its end. -/
def Obligations.VetoSlotIsRead : Prop :=
  (∀ (s : State) (l : LineFrame) (dominant : Bool), s.inReset = false → AtVeto s l →
    (l.vetoes → dominant = true ∧ s.liu.vetoRun < 7) →
      exec (.vetoSlotEnd dominant) s = .next (s.setLiu { s.liu with
        phase := .slots
        line := some { l with veto := some dominant }
        vetoRun := if l.vetoes then s.liu.vetoRun + 1 else s.liu.vetoRun })) ∧
  ∀ s : State,
    (s.liu.phase = .off ∨ s.liu.phase = .seek ∨ s.liu.line = none → s.liu.phase ≠ .idle → s.tlo = []) ∧
    (s.liu.phase = .idle → s.choice = none → s.tlo = []) ∧
    (∀ e, s.liu.phase = .idle → s.choice = some e → s.tlo = [true] ∧ s.online = true) ∧
    (∀ l own, s.liu.phase = .send → s.liu.line = some l → l.own = some own →
      (l.received = none → frameWire own.frame = false :: s.tlo.map fun on => !on) ∧
      (l.received.isSome → ∃ on before, s.tlo = [on] ∧ frameWire own.frame = before ++ [!on])) ∧
    (∀ l, s.liu.phase = .receive → s.liu.line = some l →
      (l.received = none → s.tlo = []) ∧
      ∀ r, l.received = some r →
        s.tlo = false :: List.replicate 2 (l.participating && l.own.isNone && r.cls != .good)) ∧
    (∀ l, s.liu.phase = .breaking → s.liu.line = some l → s.tlo = List.replicate 8 l.participating) ∧
    (∀ l r, s.liu.phase = .slots → s.liu.line = some l → l.received = some r →
      (l.veto = none → s.tlo = List.replicate 2 (l.participating && l.own.isNone && r.cls != .good)) ∧
      ∀ veto, l.veto = some veto → s.tlo.length = 30 ∧ ∀ k < 30,
        s.tlo[k]? = some (decide (l.participating = true ∧ veto = false ∧ r.cls = .good ∧ s.me.val = k + 1))) ∧
    (TracklineLaw s → s.online = false → s.liu.phase ≠ .send → ∀ on ∈ s.tlo, on = false)

/-- R54: a frame is REJECTED by a dominant veto or by a short tally: the line unit seeks the idle gap, nothing else but a sighting changes at a
station with nothing in flight, and a sender's entry is given back, its count raised by a veto alone, up to the limit of sixteen. R77, R79: a
withdrawn claim is discarded instead of given back, and its requester is told. -/
def Obligations.RejectedFrames : Prop :=
  ∀ (s : State) (l : LineFrame) (slots : StationSet), s.inReset = false → s.liu.phase = .slots → s.liu.line = some l →
    (l.veto = some true ∨ (l.veto = some false ∧ stationCount (slots &&& s.roster) < s.option (·.quorum))) →
      (l.own = none ∨ s.txq.flying = none →
        exec (.frameRejected slots) s =
          .next (s.setLiu { s.liu with phase := .seek, recessive := 0, line := none }).sightingLost) ∧
      (∀ e f, l.own.isSome → s.mbu.sighting = none → s.txq.flying = some e → e.flight = some f → f.withdrawn = false →
        (l.veto = some true → s.liu.rejections < 15) →
        exec (.frameRejected slots) s = .next
          ((s.setTxq (s.txq.replace e.key (some (e.mergedBack f)))).setLiu
            { s.liu with
              phase := .seek
              recessive := 0
              line := none
              rejections := if l.veto = some true then s.liu.rejections + 1 else s.liu.rejections })) ∧
      (∀ (e : TxEntry) (f : Flight) (u : State), l.own.isSome → s.mbu.sighting = none → s.txq.flying = some e → e.flight = some f →
        f.withdrawn = true → (l.veto = some true → s.liu.rejections < 15) →
        u = (s.setTxq (s.txq.replace e.key none)).setLiu
          { s.liu with
            phase := .seek
            recessive := 0
            line := none
            rejections := if l.veto = some true then s.liu.rejections + 1 else s.liu.rejections } →
        (s.role = some .wayside →
          exec (.frameRejected slots) s = .next (u.setToc { s.toc with claiming := false })) ∧
        (s.role = some .carriage → s.rte.claim.isSome →
          exec (.frameRejected slots) s = .next (u.setRte { s.rte with claim := none }).settle)) ∧
      (∀ e f, l.own.isSome → s.txq.flying = some e → e.flight = some f →
        l.veto = some true → 15 ≤ s.liu.rejections → s.online = true →
        ∃ t, exec (.frameRejected slots) s = .next t ∧ t.mbu.station = .listen ∧ t.mbu.cause = .rejectionLimit ∧
          t.txq.entries = [] ∧ t.liu.rejections = 0 ∧ t.liu.vetoRun = 0 ∧ t.ctu = clearTable s.opr.map)

/-- R91: the sighting of a frame that was rejected or spoiled is given up, with a MAP_CONFLICT notice unless it is of the last sender posted
for; that of a taken frame marks its sender's record, with the notice where the record bore no mark before the frame (log entry 14). At every
verdict TAKEN, of a frame of any kind and class but the duplicate that halts the station (DuplicateHalts), a sighting held ends so. That the sighting
of a rejected or spoiled frame under this station's own number ends so too is the model's choice (log entry 34). -/
def Obligations.SightingsEndWithTheirFrame : Prop :=
  (∀ (s : State) (k : Station) (before : Vector Peer 32),
    (s.mbu.sighting = none → s.sightingLost = s ∧ s.sightingTaken before = s) ∧
    (s.mbu.sighting = some k →
      (k = s.mbu.lastConflict → s.sightingLost = s.setMbu { s.mbu with sighting := none }) ∧
      (k ≠ s.mbu.lastConflict →
        s.sightingLost = (s.setMbu { s.mbu with sighting := none, lastConflict := k }).post (.mapConflict k)) ∧
      (1 ≤ k.val → k.val ≤ 30 → before[k].foreign = true →
        s.sightingTaken before = s.setMbu { s.mbu with
          sighting := none, peers := tabSet s.mbu.peers k { s.mbu.peers[k] with foreign := true } }) ∧
      (1 ≤ k.val → k.val ≤ 30 → before[k].foreign = false →
        s.sightingTaken before = (s.setMbu { s.mbu with
          sighting := none
          lastConflict := k
          peers := tabSet s.mbu.peers k { s.mbu.peers[k] with foreign := true } }).post (.mapConflict k)) ∧
      (¬(1 ≤ k.val ∧ k.val ≤ 30) → s.sightingTaken before = s.setMbu { s.mbu with sighting := none }))) ∧
  ∀ (s : State) (l : LineFrame) (r : Received) (kind : Kind) (slots : StationSet) (k : Station),
    s.inReset = false → s.online = true ∨ s.mbu.station = .listen → s.liu.phase = .slots → s.liu.line = some l →
    l.received = some r → r.ofKind kind = true → l.veto = some false →
    s.option (·.quorum) ≤ stationCount (slots &&& s.roster) → (frameStation r.frame = s.me → l.own.isSome) →
    s.mbu.sighting = some k →
      ∃ t, exec (takenInstr kind slots) s = .next t ∧ t.mbu.sighting = none ∧
        (1 ≤ k.val → k.val ≤ 30 →
          t.mbu.peers[k].foreign = true ∧
            (s.mbu.peers[k].foreign = false → t.mbu.lastConflict = k ∧ Posts s t (.mapConflict k)) ∧
            (s.mbu.peers[k].foreign = true → t.mbu.lastConflict = s.mbu.lastConflict)) ∧
        (¬(1 ≤ k.val ∧ k.val ≤ 30) → t.mbu.lastConflict = s.mbu.lastConflict)

/-! ## Relisten and halt (R95 to R97, R126) -/

/-- R96: the own lease's expiry, a drive failure, the veto-run limit and the rejection limit, at a clash or at a verdict, relisten: station state, table,
peers, queue, counts, leases and listen state. R177, R129: at a WAYSIDE the start queue empties with the targets and answer parts of its turnouts,
follow-ons go, running throws and the stagger run on, no possession claim is outstanding, and POSSESSION ENDED is posted with the number held. A MOVING
carriage posts HALTED (RelistenKeepsTheRoute has the rest). The end of a sighting and of a rejected withdrawn claim before the relisten (log entries 10,
32), LINK before the notice of the block that is told (log entry 18) and 255 in HALTED where no head step is (log entry 19) are the model's choices. -/
def Obligations.RelistenClearsTheStation : Prop :=
  ∀ (s u : State) (i : Instr) (cause : ChangeCause), s.inReset = false → s.online = true → Relistens s i cause u →
    ∃ t, exec i s = .next t ∧
      t.mbu.station = .listen ∧ t.mbu.cause = cause ∧ t.mbu.joinCount = s.mbu.joinCount ∧
      t.mbu.listen = some { timer := some (7 * s.bp), limit := 21 * s.bp, served := false, heard := false, agreed := false } ∧
      t.mbu.ownLease = none ∧ t.mbu.beacon = none ∧ t.mbu.lastConflict = 0 ∧
      (∀ k : Station, t.mbu.peers[k] =
        { presence := .absent, role := if k = s.me then s.mbu.peers[k].role else none, lease := none, foreign := false }) ∧
      t.ctu = clearTable s.opr.map ∧ t.txq.entries = [] ∧ t.txq.nextAge = u.txq.nextAge ∧
      t.liu.vetoRun = 0 ∧ t.liu.rejections = 0 ∧ t.liu.counted = none ∧
      (∀ l, t.liu.line = some l → l.participating = false) ∧
      t.dpt =
        (if s.role = some .wayside ∧ 0 < holdCount s.ctu s.me then
          (u.dpt.post (.link .listen cause)).post (.possessionOver .ended (holdCount s.ctu s.me))
        else if s.role = some .carriage ∧ u.rte.state = .moving then
          (u.dpt.post (.link .listen cause)).post (.halted .relisten (u.headNum.getD 255))
        else u.dpt.post (.link .listen cause)) ∧
      (s.role = some .wayside →
        t.toc = { s.toc with
          queue := []
          claiming := false
          records := s.toc.records.map fun r =>
            if r.lie = .moving then { r with followOn := none }
            else { r with followOn := none, target := none, answer := none } } ∧
        t.rte = s.rte ∧ t.mou = s.mou ∧ t.pos = s.pos)

/-- R126, R136, R140: a relisten at a CARRIAGE, whatever its cause: held steps become formerly held, confirmations clear, the claim ends; a MOVING
engine is HALTED with STOP asserted, its cause RELISTEN where it was released, PLACING becomes UNPLACED, and the position is kept. LINK is posted,
and HALTED by a MOVING engine. The end of a sighting and of a rejected withdrawn claim before the relisten (log entries 10, 32), LINK before HALTED
(log entry 18) and 255 in HALTED where no head step is (log entry 19) are the model's choices. -/
def Obligations.RelistenKeepsTheRoute : Prop :=
  ∀ (s u : State) (i : Instr) (cause : ChangeCause), s.inReset = false → s.role = some .carriage → s.online = true →
    Relistens s i cause u →
    ∃ t, exec i s = .next t ∧
      t.rte = { u.rte with
        route := u.rte.route.map fun st =>
          { st with formerly := st.formerly || st.held, held := false, confirmed := false, lieWait := none }
        holds := u.rte.holds.map fun h => { h with formerly := h.formerly || h.held, held := false }
        claim := none
        holdOff := none
        misses := 0
        offer := none
        locatedHalted := false
        state := match u.rte.state with
          | .moving => .halted
          | .placing => .unplaced
          | state => state } ∧
      t.mou = (if u.rte.state = .moving then
        { u.mou with
          stop := true, stopCause := if s.mou.stop then s.mou.stopCause else .relisten, current := 0, next := 0 }
        else u.mou) ∧
      t.dpt = (if u.rte.state = .moving then
        (u.dpt.post (.link .listen cause)).post (.halted .relisten (u.headNum.getD 255))
        else u.dpt.post (.link .listen cause)) ∧
      t.pos.fault = s.pos.fault ∧
      t.pos.place.map (·.head) = s.pos.place.map (·.head) ∧ t.pos.place.map (·.tail) = s.pos.place.map (·.tail) ∧
      t.pos.place.map (·.offset) = s.pos.place.map (·.offset) ∧ t.toc = s.toc

/-- R60, R97: a taken frame of any kind under this station's number that this station did not send halts it. LINK is posted,
and HALTED by a MOVING engine. The outstanding claim dropped at a carriage and the motion outputs left as they are at a wayside are DEDUCED (log
entry 17); LINK before HALTED (log entry 18) and 255 in HALTED where no head step is (log entry 19) are the model's choices. So is it that the
sighting of a FOREIGN frame which is itself the duplicate is dropped, with no foreign flag set and no MAP_CONFLICT posted (log entry 33). -/
def Obligations.DuplicateHalts : Prop :=
  ∀ (s : State) (l : LineFrame) (r : Received) (k : Kind) (slots : StationSet),
    s.inReset = false → s.online = true ∨ s.mbu.station = .listen → s.liu.phase = .slots → s.liu.line = some l →
    l.received = some r → r.ofKind k = true → l.veto = some false →
    s.option (·.quorum) ≤ stationCount (slots &&& s.roster) → frameStation r.frame = s.me → l.own = none →
      ∃ t, exec (takenInstr k slots) s = .next t ∧
        t.mbu.station = .duplicateHalt ∧ t.mbu.cause = .duplicate ∧ t.mbu.listen = none ∧ t.mbu.ownLease = none ∧
        t.mbu.beacon = none ∧ (∀ k : Station, t.mbu.peers[k] = { s.mbu.peers[k] with lease := none }) ∧
        t.mbu.joinCount = s.mbu.joinCount ∧ t.mbu.lastConflict = s.mbu.lastConflict ∧
        t.ctu = clearTable s.opr.map ∧ t.txq.entries = [] ∧ t.liu.phase = .off ∧ t.liu.line = none ∧
        t.liu.vetoRun = 0 ∧ t.liu.rejections = 0 ∧
        t.dpt = (if s.role = some .carriage ∧ s.rte.state = .moving then
          (s.dpt.post (.link .duplicateHalt .duplicate)).post (.halted .duplicate (s.headNum.getD 255))
          else s.dpt.post (.link .duplicateHalt .duplicate)) ∧
        (s.role = some .carriage →
          t.mou = { stop := true, stopCause := if s.mou.stop then s.mou.stopCause else .duplicate, current := 0, next := 0,
                    keep := none } ∧
          t.rte.offer = none ∧ t.rte.claim = none ∧
          t.rte.state = (if s.rte.state = .moving then .halted else s.rte.state) ∧
          t.pos.fault = s.pos.fault ∧ t.toc = s.toc) ∧
        (s.role = some .wayside → t.toc.queue = [] ∧ t.toc.records.map (·.motor) = s.toc.records.map (·.motor) ∧
          t.toc.inputs = s.toc.inputs ∧ t.mou = s.mou ∧ t.rte = s.rte ∧ t.pos = s.pos)

/-! ## Taken frames (R21 to R37, R56) -/

/-- R21, R22, R62: every kind of taken frame is applied to the claim table in ANNOUNCE and ACTIVE, at the sender as at a receiver; the line
unit seeks the idle gap, and the count of an entry taken is 0. R77: the entry in flight has the outcome TAKEN. Its sent items are removed: with
nothing pending the entry leaves the queue, and one of its kind there afterwards is a new request of the same event; else the pending arguments stay
as the entry's, with their age and out of flight, joined by what the event itself requests. No event requests a BEACON, CLEAR or GUARD here, so theirs
are exactly so. Every other entry that waits stays, LAPSE apart (R78), joined at most by the event's own requests. That a frame this station classed
FOREIGN or FAULTY is applied from its content too is DEDUCED (log entry 13). -/
def Obligations.TakenFramesChangeTheTable : Prop :=
  ∀ (s : State) (l : LineFrame) (r : Received) (p : Payload) (slots : StationSet),
    s.inReset = false → s.online = true → s.liu.phase = .slots → s.liu.line = some l → l.received = some r →
    r.content = some p → l.veto = some false → s.option (·.quorum) ≤ stationCount (slots &&& s.roster) →
    (frameStation r.frame = s.me → l.own.isSome) →
      ∃ t, exec (takenInstr p.kind slots) s = .next t ∧
        t.ctu = applyPayload s.opr.map s.ctu (frameStation r.frame) p ∧
        t.liu = { s.liu with
          phase := .seek
          recessive := 0
          line := none
          rejections := if l.own.isSome ∧ s.txq.flying.isSome then 0 else s.liu.rejections } ∧
        (∀ e f, l.own.isSome → s.txq.flying = some e → e.flight = some f →
          (s.txq.outcome .taken).1 =
            s.txq.replace e.key (f.pending.map fun p => { e with args := p.args, age := p.age, flight := none }) ∧
          (f.pending = none → ∀ x, t.txq.find e.key = some x → s.txq.nextAge ≤ x.age) ∧
          (∀ q, f.pending = some q → e.key ≠ .lapse →
            ∃ more, t.txq.find e.key = some { e with args := q.args.join more, age := q.age, flight := none }) ∧
          (e.key = .beacon ∨ e.key = .clear ∨ e.key = .guard →
            t.txq.find e.key = f.pending.map fun q => { e with args := q.args, age := q.age, flight := none })) ∧
        ∀ key e, s.txq.find key = some e → e.flight = none → key ≠ .lapse → (∀ x, s.txq.flying = some x → x.key ≠ key) →
          ∃ more, t.txq.find key = some { e with args := e.args.join more }

/-- R85 to R91: a listening station learns every kind of taken GOOD frame, its agreement mark compares the frame's digest with its own, and a
served station announces when they agree. A taken FAULTY frame is a miss: nothing is learned, the listen timer starts anew and the flags and the
mark are clear. A taken FOREIGN frame sets the heard flag and leaves table and mark. -/
def Obligations.ListenersLearnTakenFrames : Prop :=
  ∀ (s : State) (l : LineFrame) (r : Received) (slots : StationSet) (w : Listen),
    s.inReset = false → s.mbu.station = .listen → s.mbu.listen = some w →
    s.liu.phase = .slots → s.liu.line = some l → l.received = some r → l.veto = some false →
    s.option (·.quorum) ≤ stationCount (slots &&& s.roster) → (frameStation r.frame = s.me → l.own.isSome) →
      (∀ p : Payload, r.content = some p → r.cls = .good →
        ∃ t, exec (takenInstr p.kind slots) s = .next t ∧
          t.ctu = learnPayload s.opr.map s.ctu (frameStation r.frame) p ∧
          t.rte = s.rte ∧ t.mou = s.mou ∧ t.pos = s.pos ∧ t.toc = s.toc ∧
          (¬(w.served = true ∧ r.frame.digest = digest s.ctu) →
            t.mbu.station = .listen ∧ t.txq = s.txq ∧
            t.mbu.listen = some { w with heard := true, agreed := r.frame.digest == digest s.ctu }) ∧
          (w.served = true → r.frame.digest = digest s.ctu →
            t.mbu.station = .announce ∧ t.mbu.cause = .listenDone ∧ t.mbu.listen = none ∧ t.mbu.beacon = some s.bp)) ∧
      ∀ kind : Kind, r.ofKind kind = true →
        (r.cls = .faulty →
          ∃ t, exec (takenInstr kind slots) s = .next t ∧
            t.ctu = s.ctu ∧ t.txq = s.txq ∧ t.rte = s.rte ∧ t.mou = s.mou ∧ t.pos = s.pos ∧ t.toc = s.toc ∧
            t.mbu.station = .listen ∧
            t.mbu.listen = some { w with timer := some (7 * s.bp), served := false, heard := false, agreed := false }) ∧
        (r.cls = .foreign →
          ∃ t, exec (takenInstr kind slots) s = .next t ∧
            t.ctu = s.ctu ∧ t.rte = s.rte ∧ t.mou = s.mou ∧ t.pos = s.pos ∧ t.toc = s.toc ∧
            (¬(w.served = true ∧ w.agreed = true) →
              t.mbu.station = .listen ∧ t.txq = s.txq ∧ t.mbu.listen = some { w with heard := true }) ∧
            (w.served = true → w.agreed = true →
              t.mbu.station = .announce ∧ t.mbu.cause = .listenDone ∧ t.mbu.listen = none ∧ t.mbu.beacon = some s.bp))

/-- R24, R25: the claim rule. All bundled segments available and the count within twelve: all become HELD by the sender with their required
lies; else no entry changes. Reported lies and the other entries stay. -/
def Obligations.ClaimWinsOrChangesNothing : Prop :=
  ∀ (map : Option TrackMap) (t : Table) (c : Station) (tag : Tag) (bundle : List BundleEntry) (i : Seg) (reclaim : Bool)
    (p : Payload), distinct (bundle.map (·.seg)) = true →
    p = (if reclaim then .reclaim tag bundle else .claim tag bundle) →
      ((∀ e ∈ bundle, t[e.seg].claim = .free ∨ (reclaim = true ∧ t[e.seg].isBlocked = true)) →
        holdCount t c + bundle.length ≤ 12 →
        ∀ e ∈ bundle, (applyPayload map t c p)[e.seg] = { claim := .held c e.required, reported := t[e.seg].reported }) ∧
      (i ∉ bundle.map (·.seg) → (applyPayload map t c p)[i] = t[i]) ∧
      (¬((∀ e ∈ bundle, t[e.seg].claim = .free ∨ (reclaim = true ∧ t[e.seg].isBlocked = true)) ∧
          holdCount t c + bundle.length ≤ 12) → applyPayload map t c p = t)

/-- R26: the change report of a claim-type frame names a win, or a loss with the first case of the table that the losing bundle meets. -/
def Obligations.LossCauses : Prop :=
  ∀ (map : Option TrackMap) (t : Table) (c : Station) (tag : Tag) (reclaim : Bool) (bundle : List BundleEntry) (p : Payload),
    p = (if reclaim then .reclaim tag bundle else .claim tag bundle) →
      (((∀ e ∈ bundle, t[e.seg].claim = .free ∨ (reclaim = true ∧ t[e.seg].isBlocked = true)) ∧
          holdCount t c + bundle.length ≤ 12) → (reportOf map t c p).outcome = some .win) ∧
      (¬((∀ e ∈ bundle, t[e.seg].claim = .free ∨ (reclaim = true ∧ t[e.seg].isBlocked = true)) ∧
          holdCount t c + bundle.length ≤ 12) →
        (reportOf map t c p).outcome = some (.loss
          (if ∃ e ∈ bundle, t[e.seg].isHeld = true then .held
          else if reclaim = false ∧ ∃ e ∈ bundle, t[e.seg].isBlocked = true then .blocked
          else .holdLimit)))

/-- R28 to R33: what a taken RELEASE, CLEAR, GUARD and LAPSE make of each entry. -/
def Obligations.ReleaseClearGuardAndLapse : Prop :=
  ∀ (map : Option TrackMap) (t : Table) (c : Station) (segs : List Seg) (set : StationSet) (i : Seg),
    (applyPayload map t c (.release segs))[i] =
      (if i ∈ segs ∧ t[i].holder = some c then { claim := .free, reported := t[i].reported } else t[i]) ∧
    (applyPayload map t c (.clear segs))[i] =
      (if i ∈ segs ∧ t[i].isBlocked = true then { claim := .free, reported := t[i].reported } else t[i]) ∧
    (applyPayload map t c (.guard segs))[i] =
      (if i ∈ segs ∧ t[i].claim = .free then { claim := .blocked .guard, reported := t[i].reported } else t[i]) ∧
    (applyPayload map t c (.lapse set))[i] =
      { claim := if ∃ k, t[i].holder = some k ∧ stationHas set k = true then .blocked .lapse else t[i].claim
        reported := if ∃ k, (mapRec map i).owner = some k ∧ stationHas set k = true then some .unknown else t[i].reported }

/-- R34, R35: of LIE and BEACON frames only the owner's change a reported lie, and none changes a claim. (A LAPSE changes reported lies too, R30:
ReleaseClearGuardAndLapse.) -/
def Obligations.ReportedLies : Prop :=
  ∀ (map : Option TrackMap) (t : Table) (c : Station) (seg i : Seg) (lie : Lie) (cause : LieCause)
    (answer : Option (Station × Tag)) (announce : Bool) (role : Role) (held : List BundleEntry) (blocked : SegSet)
    (lies : List LieEntry),
    (applyPayload map t c (.lie seg lie cause answer))[i] =
      (if i = seg ∧ (mapRec map i).owner = some c then { claim := t[i].claim, reported := some lie } else t[i]) ∧
    ((applyPayload map t c (.beacon announce role held blocked lies))[i]).claim = t[i].claim ∧
    ((mapRec map i).owner ≠ some c ∨ i ∉ lies.map (·.seg) →
      (applyPayload map t c (.beacon announce role held blocked lies))[i] = t[i]) ∧
    (∀ e ∈ lies, (lies.map (·.seg)).Nodup → (mapRec map e.seg).owner = some c →
      ((applyPayload map t c (.beacon announce role held blocked lies))[e.seg]).reported = some e.lie)

/-- R86: what a listening station learns from a beacon about each claim: the holdings list stands for its sender, the blocked map for
BLOCKED; the lie list gives the reported lies of its sender's turnouts as R35 has it, and no other changes. R87: a payload of any other kind is learned
as it is applied. -/
def Obligations.BeaconIsLearned : Prop :=
  (∀ (map : Option TrackMap) (t : Table) (c : Station) (p : Payload), p.kind ≠ .beacon →
    learnPayload map t c p = applyPayload map t c p) ∧
  ∀ (map : Option TrackMap) (t n : Table) (c : Station) (announce : Bool) (role : Role) (held : List BundleEntry)
    (blocked : SegSet) (lies : List LieEntry) (i : Seg),
    n = learnPayload map t c (.beacon announce role held blocked lies) →
    ((mapRec map i).owner ≠ some c ∨ i ∉ lies.map (·.seg) → (n[i]).reported = t[i].reported) ∧
    (∀ e ∈ lies, (lies.map (·.seg)).Nodup → (mapRec map e.seg).owner = some c → (n[e.seg]).reported = some e.lie) ∧
    (∀ e ∈ held, (held.map (·.seg)).Nodup → (n[e.seg]).claim = .held c e.required) ∧
    (i ∉ held.map (·.seg) → segHas blocked i = true → t[i].isBlocked = false → (n[i]).claim = .blocked .relistenLearned) ∧
    (i ∉ held.map (·.seg) → segHas blocked i = true → t[i].isBlocked = true → (n[i]).claim = t[i].claim) ∧
    (i ∉ held.map (·.seg) → segHas blocked i = false → t[i].isBlocked = true ∨ t[i].holder = some c → (n[i]).claim = .free) ∧
    (i ∉ held.map (·.seg) → segHas blocked i = false → t[i].isBlocked = false → t[i].holder ≠ some c →
      (n[i]).claim = t[i].claim)

/-! ## Membership (R85 to R104) -/

/-- R78, R93, R94, R99, R101, R103: every roster station that a taken frame shows is PRESENT with a full lease and no foreign mark, every other
station a taken LAPSE names is LAPSED, a BEACON gives its sender's record its role, and no other presence, lease or role changes: so in LISTEN too, where
a miss shows its stations all the same and teaches no role and no LAPSED (log entry 15). PEER is posted for a station shown that was not PRESENT, for one
named that was not LAPSED when the LAPSE came to it, and for this station where a LAPSE names it; those shown come first (log entry 10). A frame whose
content failed a check under a good CRC changes no claim, and a BEACON's role and a LAPSE's stations are read from it all the same (log entry 15). In
ANNOUNCE and ACTIVE those stations leave the LAPSE entry, an ACTIVE station's own lease restarts, and the verdict TAKEN on its own announce makes a
station ACTIVE. -/
def Obligations.TakenFramesRenewLeases : Prop :=
  ∀ (s : State) (l : LineFrame) (r : Received) (kind : Kind) (slots : StationSet),
    AtTaken s l r slots → s.online = true ∨ s.mbu.station = .listen → r.ofKind kind = true →
      ∃ t, exec (takenInstr kind slots) s = .next t ∧
        (∀ k : Station, 1 ≤ k.val → k.val ≤ 30 →
          (SeenIn s r slots k → ¬NamedIn s r k →
            t.mbu.peers[k].presence = .present ∧ t.mbu.peers[k].lease = some (6 * s.bp) ∧
              (s.mbu.sighting ≠ some k → t.mbu.peers[k].foreign = false)) ∧
          (NamedIn s r k → k ≠ s.me → t.mbu.peers[k].presence = .lapsed ∧ t.mbu.peers[k].lease = none) ∧
          (¬SeenIn s r slots k → ¬NamedIn s r k ∨ k = s.me →
            t.mbu.peers[k].presence = s.mbu.peers[k].presence ∧ t.mbu.peers[k].lease = s.mbu.peers[k].lease ∧
              (s.mbu.sighting ≠ some k → t.mbu.peers[k].foreign = s.mbu.peers[k].foreign))) ∧
        (∀ role, RoleIn s r role → t.mbu.peers[frameStation r.frame].role = some role) ∧
        (∀ k : Station, (∀ role, RoleIn s r role → k ≠ frameStation r.frame) →
          t.mbu.peers[k].role = s.mbu.peers[k].role) ∧
        (∃ ns : List Notice, t.dpt = ns.foldl Dpt.post s.dpt ∧ ∀ k : Station, 1 ≤ k.val → k.val ≤ 30 →
          (.peer k .present ∈ ns ↔ SeenIn s r slots k ∧ s.mbu.peers[k].presence ≠ .present) ∧
          (.peer k .lapsed ∈ ns ↔
            NamedIn s r k ∧ (k = s.me ∨ SeenIn s r slots k ∨ s.mbu.peers[k].presence ≠ .lapsed)) ∧
          .peer k .absent ∉ ns ∧ .peer k .lapsing ∉ ns) ∧
        (r.content = none → t.ctu = s.ctu) ∧
        (s.online = true →
          (∀ e ∈ t.txq.entries, e.key = .lapse → ∀ k : Station,
            (stationHas slots k = true ∧ stationHas s.roster k = true) ∨ frameStation r.frame = k ∨ NamedIn s r k →
            (∀ set, e.flight = none → e.args = .stations set → stationHas set k = false) ∧
            ∀ f q set, e.flight = some f → f.pending = some q → q.args = .stations set → stationHas set k = false) ∧
          (s.mbu.station = .active → t.mbu.station = .active ∧ t.mbu.ownLease = some (4 * s.bp)) ∧
          (∀ role held blocked lies, s.mbu.station = .announce → l.own.isSome →
            r.content = some (.beacon true role held blocked lies) →
            t.mbu.station = .active ∧ t.mbu.cause = .announceTaken ∧ t.mbu.ownLease = some (4 * s.bp) ∧
            t.mbu.beacon = s.mbu.beacon))

/-- R85, R89, R90, R92, R102: the listen timer's expiry serves the station, which announces when nothing was heard or the last frame agreed: it
requests a BEACON, and a LAPSE of every peer that is LAPSING, into the transmit queue, which is empty in LISTEN (R72). The listen limit's
expiry starts it anew with a clear table. -/
def Obligations.ListenTimers : Prop :=
  ∀ (s : State) (w : Listen), s.inReset = false → s.mbu.station = .listen → s.mbu.listen = some w →
    (w.timer.isSome → w.heard = true → w.agreed = false →
      exec .listenTimerExpiry s = .next (s.setMbu { s.mbu with listen := some { w with timer := none, served := true } })) ∧
    (w.timer.isSome → w.heard = false ∨ w.agreed = true →
      ∃ t, exec .listenTimerExpiry s = .next t ∧
        t.mbu = { s.mbu with station := .announce, cause := .listenDone, listen := none, beacon := some s.bp } ∧
        t.dpt = s.dpt.post (.link .announce .listenDone) ∧ (t.txq.find .beacon).isSome ∧
        t.ctu = s.ctu ∧ t.liu = s.liu ∧ t.rte = s.rte ∧
        ∀ set : StationSet, s.txq.entries = [] →
          (∀ k : Station, stationHas set k = true ↔ 1 ≤ k.val ∧ k.val ≤ 30 ∧ s.mbu.peers[k].presence = .lapsing) →
          t.txq.entries = { key := .beacon, args := .beacon, age := s.txq.nextAge, flight := none } ::
            (if set = 0 then []
            else [{ key := .lapse, args := .stations set, age := s.txq.nextAge + 1, flight := none }])) ∧
    exec .listenLimitExpiry s = .next
      (((s.setCtu (clearTable s.opr.map)).setMbu { s.mbu with
        joinCount := min (s.mbu.joinCount + 1) 255
        cause := .listenLimit
        lastConflict := 0
        listen := some { timer := some (7 * s.bp), limit := 21 * s.bp, served := false, heard := false,
                         agreed := false } }).post
        (.joinRetry (min (s.mbu.joinCount + 1) 255)))

/-- R100, R102, R104: a remote lease runs out: LAPSING with a LAPSE request while the peer holds or owns track, ABSENT otherwise. The beacon
timer restarts at each of its expiries and requests a BEACON. -/
def Obligations.RemoteLeasesAndBeaconTimer : Prop :=
  (∀ (s : State) (k : Station) (p : Peer), s.inReset = false → s.mbu.peers[k] = p → p.lease.isSome →
    (p.presence = .present → (0 < holdCount s.ctu k ∨ ∃ i, (s.seg i).owner = some k) →
      exec (.remoteLeaseExpiry k) s = .next
        ((((s.setMbu { s.mbu with
            peers := tabSet s.mbu.peers k { p with presence := .lapsing, lease := some (6 * s.bp) } })).post
          (.peer k .lapsing)).txRequest .lapse (.stations (stationOne k)))) ∧
    (p.presence = .lapsing →
      exec (.remoteLeaseExpiry k) s = .next
        ((s.setMbu { s.mbu with
            peers := tabSet s.mbu.peers k { p with lease := some (6 * s.bp) } }).txRequest .lapse
          (.stations (stationOne k)))) ∧
    (p.presence = .present → holdCount s.ctu k = 0 → (∀ i, (s.seg i).owner ≠ some k) →
      exec (.remoteLeaseExpiry k) s = .next
        ((s.setMbu { s.mbu with peers := tabSet s.mbu.peers k { p with presence := .absent, lease := none } }).post
          (.peer k .absent)))) ∧
  ∀ s : State, s.inReset = false → s.mbu.beacon.isSome → s.online = true →
    exec .beaconTimerExpiry s = .next
      ((s.setMbu { s.mbu with beacon := some s.bp }).setTxq (s.txq.request .beacon .beacon))

/-! ## Route engine (chapter 6) -/

/-- R110 to R112, R187: an accepted LOCATE sets the occupancy and its holds, clears route, limits, offer and fault, has what it shows held outside the new
occupancy released, and enters PLACING, where it claims what it does not hold, tail first, when nothing is outstanding or the outstanding claim still
waits; a claim in flight is withdrawn. With everything held the placement is won at once (log entry 21). -/
def Obligations.LocateSetsTheOccupancy : Prop :=
  ∀ (s : State) (head : Seg) (offset : BitVec 24) (tail : Option Seg) (now missing : List Seg),
    s.inReset = false → s.role = some .carriage → s.mbu.station = .active →
    s.rte.state = .unplaced ∨ s.rte.state = .parked ∨ s.rte.state = .halted → offset.toNat ≤ 65535 →
    (s.seg head).defined = true →
    (∀ t, tail = some t → (s.seg t).defined = true ∧ t ≠ head ∧ meetings s.opr.map head t ≠ [] ∧
      offset.toNat < s.option (·.carriageLength)) →
    (tail = none → offset.toNat ≤ (s.seg head).length) → ArgsLaw s →
    now = tail.toList ++ [head] → missing = (now.filter fun seg => !s.rte.heldSegs.contains seg) →
      ∃ t, exec (.locate (segByte head) offset (tail.map segByte)) s = .next t ∧
        t.pos = { s.pos with
          place := some { head := head, tail := tail, offset := offset.toNat, boundary := tail.map fun b => (b, head), creep := 0 }
          fault := none } ∧
        t.rte.route = [] ∧
        t.rte.holds = (now.map fun seg => { seg := seg, held := s.rte.heldSegs.contains seg, formerly := false }) ∧
        t.rte.committedLimit = none ∧ t.rte.offer = none ∧ t.rte.misses = 0 ∧ t.rte.holdOff = none ∧ t.mou.stop = s.mou.stop ∧
        (∀ seg ∈ s.rte.heldSegs, seg ∉ now → Releases t.txq seg) ∧
        (missing ≠ [] → t.rte.state = .placing ∧ (t.rte.locatedHalted = true ↔ s.rte.state = .halted)) ∧
        (missing ≠ [] →
          (s.rte.claim = none ∧ s.txq.find .claim = none) ∨
            (s.rte.claim.isSome ∧ ∃ e, s.txq.find .claim = some e ∧ e.flight = none) →
          ∃ o, t.rte.claim = some o ∧ o.placement = true ∧ o.reclaim = true ∧ o.withdrawn = false ∧ o.tag = s.rte.tagCounter ∧
            o.bundle = (missing.map fun seg => { seg := seg, required := none }) ∧
            (t.txq.find .claim).map (·.args) = some (.claim true o.bundle s.rte.tagCounter)) ∧
        (∀ o e f, s.rte.claim = some o → s.txq.find .claim = some e → e.flight = some f →
          t.rte.claim = some { o with withdrawn := true } ∧
            t.txq.find .claim = some { e with flight := some { f with withdrawn := true } }) ∧
        (missing = [] → (∀ o, s.rte.claim = some o → o.placement = false) →
          t.rte.state = (if s.rte.state = .halted then .halted else .parked) ∧
            Posts (s.setDpt { s.dpt with reply := t.dpt.reply, shifted := t.dpt.shifted }) t (.placedWon head)) ∧
        t.dpt.reply = { status := .done, data := [] } ∧ t.dpt.shifted = some s.dpt.reply

/-- R6 to R8, R113, R114: an accepted LOAD ROUTE fills the queue with the resolved steps, step 0 with the flags of the head's hold; a route that
fails a check is refused with that check's reason and changes nothing. The planner tests at once: in ACTIVE, with no claim outstanding and no hold-off
running, it queues the first bundle of the route, with the next tag, which its steps take; else, or with no bundle to form, it queues nothing. The
checks of R8 in their order, the passages of R6, and the steps of R7. -/
def Obligations.LoadRouteFillsTheQueue : Prop :=
  (∀ (s : State) (segs : List Seg) (h : Hold), s.inReset = false → s.role = some .carriage →
    s.mbu.station = .listen ∨ s.mbu.station = .announce ∨ s.mbu.station = .active →
    s.rte.state = .parked → s.tail = none → s.rte.holds = [h] → s.head = some h.seg → 1 ≤ segs.length → segs.length ≤ 16 →
    (∀ reason, resolveRoute s.opr.map s.head segs = .error reason →
      exec (.loadRoute (segs.map segByte)) s = .next (s.setDpt { s.dpt with
        shifted := some s.dpt.reply, reply := { status := .refused, data := [byteOf reason.code] } })) ∧
    ∀ (st : Step) (rest : List Step) (u : State), resolveRoute s.opr.map s.head segs = .ok (st :: rest) →
      u = s.setRte { s.rte with
        state := .routed, route := { st with held := h.held, formerly := h.formerly } :: rest, holds := []
        committedLimit := some 0, misses := 0 } →
      ∃ t, exec (.loadRoute (segs.map segByte)) s = .next t ∧
        t.rte.state = .routed ∧ t.rte.holds = [] ∧ t.rte.committedLimit = some 0 ∧ t.rte.misses = 0 ∧
        (t.rte.route.map fun q => { q with tag := none }) =
          (({ st with held := h.held, formerly := h.formerly } :: rest).map fun q => { q with tag := none }) ∧
        (s.mbu.station ≠ .active ∨ s.rte.claim.isSome ∨ s.rte.holdOff.isSome ∨ u.bundle = [] →
          t.rte.route = { st with held := h.held, formerly := h.formerly } :: rest ∧ t.rte.claim = s.rte.claim ∧
            t.rte.tagCounter = s.rte.tagCounter ∧ t.txq = s.txq) ∧
        (∀ front more, s.mbu.station = .active → s.rte.claim = none → s.rte.holdOff = none → s.txq.find .claim = none →
          u.bundle = front :: more →
          t.rte.route = tagSteps u.rte.route (front :: more) s.rte.tagCounter ∧ t.rte.tagCounter = s.rte.tagCounter + 1 ∧
            t.rte.claim = some
              { placement := false, reclaim := front.reclaim, bundle := bundleEntries (front :: more),
                tag := s.rte.tagCounter, first := front.num, withdrawn := false } ∧
            t.txq = { entries := s.txq.entries ++
                [{ key := .claim, args := .claim front.reclaim (bundleEntries (front :: more)) s.rte.tagCounter,
                   age := s.txq.nextAge, flight := none }],
                      nextAge := s.txq.nextAge + 1 }) ∧
        t.dpt.reply = { status := .done, data := [] } ∧ t.pos.fault = s.pos.fault ∧ t.mou.stop = s.mou.stop) ∧
  (∀ (map : Option TrackMap) (head : Option Seg) (segs : List Seg),
    let sized := 2 ≤ segs.length ∧ segs.length ≤ 16
    let defined := ∀ seg ∈ segs, (mapRec map seg).defined = true
    let starts := ∃ seg, segs.head? = some seg ∧ head = some seg ∧ (mapRec map seg).isStanding = true
    let ends := ∃ seg, segs.getLast? = some seg ∧ (mapRec map seg).isStanding = true
    let meetsOnce := fun a b => (meetings map a b).length = 1
    let passes := ∀ before w x y after, segs = before ++ w :: x :: y :: after →
      ∀ e f g h, meetings map w x = [(e, f)] → meetings map x y = [(g, h)] → (passageLie (mapRec map x) f g).isSome = true
    (¬sized → resolveRoute map head segs = .error .routeSize) ∧
    (sized → ¬defined → resolveRoute map head segs = .error .routeUndefined) ∧
    (sized → defined → ¬segs.Nodup → resolveRoute map head segs = .error .routeRepeat) ∧
    (sized → defined → segs.Nodup → ¬starts → resolveRoute map head segs = .error .routeStart) ∧
    (sized → defined → segs.Nodup → starts → ¬ends → resolveRoute map head segs = .error .routeFinal) ∧
    (sized → defined → segs.Nodup → starts → ends →
      (∀ before a b after, segs = before ++ a :: b :: after → (before ++ [a]).IsChain meetsOnce →
        (meetings map a b = [] → resolveRoute map head segs = .error .routeGap) ∧
        (2 ≤ (meetings map a b).length → resolveRoute map head segs = .error .routeFork)) ∧
      (segs.IsChain meetsOnce → ¬passes → resolveRoute map head segs = .error .routePassage) ∧
      (segs.IsChain meetsOnce → passes → ∃ route, resolveRoute map head segs = .ok route)) ∧
    ∀ route, resolveRoute map head segs = .ok route →
      route.map (·.seg) = segs ∧ route.map (·.num) = List.range segs.length ∧ route.IsChain (stepsLinked map) ∧
      (∀ st, route.head? = some st → st.entryEnd = none) ∧ (∀ st, route.getLast? = some st → st.exitEnd = none) ∧
      ∀ st ∈ route, st.held = false ∧ st.formerly = false ∧ st.confirmed = false ∧ st.committed = false ∧ st.tag = none ∧
        st.required = (match st.entryEnd, st.exitEnd with
          | some e, some x => (passageLie (mapRec map st.seg) e x).join
          | _, _ => none)) ∧
  ∀ (length : Nat) (l0 l1 l2 : Option Link) (refuge : Bool) (owner : Station) (e x : EndNo),
    passageLie (.plain length l0 l1 refuge) e x = (if (e = 0 ∧ x = 1) ∨ (e = 1 ∧ x = 0) then some none else none) ∧
    passageLie (.turnout length l0 l1 l2 owner) e x =
      (if (e = 0 ∧ x = 1) ∨ (e = 1 ∧ x = 0) then some (some .normal)
      else if (e = 0 ∧ x = 2) ∨ (e = 2 ∧ x = 0) then some (some .reverse)
      else none) ∧
    passageLie (.pad length l0) e x = none ∧ passageLie .absent e x = none

/-- R114, R117, R119: at the hold-off's expiry the planner queues the bundle it then forms, with the next tag. -/
def Obligations.HoldOffExpiryQueuesTheNextClaim : Prop :=
  ∀ (s : State) (front : PlanItem) (more : List PlanItem),
    s.inReset = false → s.rte.holdOff.isSome → s.role = some .carriage → s.mbu.station = .active →
    s.rte.claim = none → s.txq.find .claim = none → s.rte.state ≠ .placing →
    (s.setRte { s.rte with holdOff := none }).bundle = front :: more →
      ∃ t, exec .holdOffExpiry s = .next t ∧ t.rte.holdOff = none ∧ t.rte.tagCounter = s.rte.tagCounter + 1 ∧
        t.rte.claim = some
          { placement := false, reclaim := front.reclaim, bundle := bundleEntries (front :: more),
            tag := s.rte.tagCounter, first := front.num, withdrawn := false } ∧
        t.txq = { entries := s.txq.entries ++
            [{ key := .claim, args := .claim front.reclaim (bundleEntries (front :: more)) s.rte.tagCounter,
               age := s.txq.nextAge, flight := none }],
                  nextAge := s.txq.nextAge + 1 } ∧
        t.rte.state = s.rte.state ∧ t.rte.route = tagSteps s.rte.route (front :: more) s.rte.tagCounter ∧
        t.rte.holds = s.rte.holds ∧ t.mou.stop = s.mou.stop ∧ t.pos = s.pos

/-- R115, R116, R119: the bundle the planner forms begins at the claim front, is of one sort and unheld, at most six steps and within the room
under the hold limit, a fresh one within claim-ahead and ending at the first refuge, and it ends for one of these reasons alone. A counted loss
starts the hold-off, counts the losses of one bundle, and posts STALLED at the eighth. -/
def Obligations.BundlesAndLosses : Prop :=
  (∀ s : State,
    s.rte.state = .parked ∨ s.rte.state = .routed ∨ s.rte.state = .moving ∨ s.rte.state = .halted →
    s.bundle.length ≤ 6 ∧ s.bundle.length ≤ 12 - holdCount s.ctu s.me ∧
    (∀ p ∈ s.bundle, p.held = false ∧ p ∈ s.planItems) ∧
    (∀ p ∈ s.bundle, ∀ q ∈ s.bundle, p.reclaim = q.reclaim) ∧
    (∀ p ∈ s.bundle, p.reclaim = false → p.num ≤ s.headNum.getD 0 + s.option (·.claimAhead)) ∧
    (∀ before p after, s.bundle = before ++ p :: after → p.reclaim = false → after ≠ [] → (s.seg p.seg).isRefuge = false) ∧
    (∀ front more, s.bundle = front :: more → s.planItems.find? (fun p => !p.held) = some front) ∧
    (∀ front, s.planItems.find? (fun p => !p.held) = some front → holdCount s.ctu s.me < 12 →
      front.reclaim = true ∨ front.num ≤ s.headNum.getD 0 + s.option (·.claimAhead) →
      ∃ more, s.bundle = front :: more) ∧
    ∃ rest, s.planItems.dropWhile (·.held) = s.bundle ++ rest ∧
      ∀ before p next more, s.bundle = before ++ [p] → rest = next :: more →
        s.bundle.length = 6 ∨ s.bundle.length = 12 - holdCount s.ctu s.me ∨ next.held = true ∨ next.reclaim ≠ p.reclaim ∨
          (p.reclaim = false ∧
            ((s.seg p.seg).isRefuge = true ∨ s.headNum.getD 0 + s.option (·.claimAhead) < next.num))) ∧
  ∀ (s : State) (o : Outstanding) (e : BundleEntry) (rest : List BundleEntry) (cause : LossCause),
    o.bundle = e :: rest →
    (s.rte.lastLost ≠ some e.seg →
      s.countLoss o cause = s.setRte { s.rte with
        holdOff := some (20 + 2 * s.me.val), misses := 1, lastLost := some e.seg }) ∧
    (s.rte.lastLost = some e.seg → s.rte.misses ≠ 7 →
      s.countLoss o cause = s.setRte { s.rte with
        holdOff := some (20 + 2 * s.me.val), misses := s.rte.misses + 1 }) ∧
    (s.rte.lastLost = some e.seg → s.rte.misses = 7 →
      s.countLoss o cause = (s.setRte { s.rte with
        holdOff := some (20 + 2 * s.me.val), misses := 0 }).post (.stalled o.first e.seg cause))

/-- R106, R120 to R122: what the changes of a report, an accepted LIE and a changed reported lie do to a step, and that nothing else confirms or
unconfirms one; the lie-wait timer's expiry posts LIE_LATE with the table's reported lie, and stops. -/
def Obligations.LiesConfirmSteps : Prop :=
  (∀ (me : Station) (lieWait : Nat) (r : Report) (st : Step),
    (r.change st.seg = none → st.follow me lieWait r = st) ∧
    ∀ c, r.change st.seg = some c →
      (∀ required, c.new = .held me required →
        st.follow me lieWait r =
          { st with held := true, formerly := false, lieWait := if st.required.isSome then some lieWait else st.lieWait }) ∧
      ((∀ required, c.new ≠ .held me required) → (∃ required, c.old = .held me required) →
        st.follow me lieWait r =
          { st with held := false, confirmed := false, lieWait := none, formerly := st.formerly || (st.held && c.blocks) }) ∧
      ((∀ required, c.new ≠ .held me required) → (∀ required, c.old ≠ .held me required) → st.follow me lieWait r = st)) ∧
  (∀ (me c : Station) (r : Report) (st : Step) (p : Points) (seg : Seg) (lie : Lie) (cause : LieCause) (tag : Tag),
    st.required = some p → r.content = .lie seg lie cause (some (c, tag)) →
    ((r.accepted = true ∧ c = me ∧ seg = st.seg ∧ st.held = true ∧ (st.tag = some tag ∨ cause = .report) ∧
        lie = pointsLie p ∧ (cause = .done ∨ cause = .confirmed ∨ cause = .report)) →
      st.confirm me r = { st with confirmed := true, lieWait := none }) ∧
    (¬(r.accepted = true ∧ c = me ∧ seg = st.seg ∧ st.held = true ∧ (st.tag = some tag ∨ cause = .report) ∧
        lie = pointsLie p ∧ (cause = .done ∨ cause = .confirmed ∨ cause = .report)) →
      st.confirm me r = st)) ∧
  (∀ (me : Station) (r : Report) (st : Step),
    ((∀ seg lie cause a, r.content ≠ .lie seg lie cause (some a)) → st.confirm me r = st) ∧
    (st.required = none → st.confirm me r = st ∧ st.unconfirm r = st) ∧
    ∀ p, st.required = some p →
      ((∃ ch ∈ r.lies, ch.seg = st.seg ∧ ch.new ≠ pointsLie p) → st.unconfirm r = { st with confirmed := false }) ∧
      ((∀ ch ∈ r.lies, ch.seg = st.seg → ch.new = pointsLie p) → st.unconfirm r = st)) ∧
  ∀ (s : State) (st : Step) (before after : List Step), s.inReset = false →
    s.rte.route = before ++ st :: after → st.lieWait.isSome → RouteLaw s →
      exec (.lieWaitExpiry st.num) s = .next
        ((s.setRte { s.rte with route := before ++ { st with lieWait := none } :: after }).post
          (.lieLate st.num st.seg (s.ctu[st.seg].reported.getD .unknown)))

/-- R124, R139: an accepted CANCEL cuts the route at the committed limit and parks a ROUTED carriage; the held segments of the steps cut are released, a
claim that waits is discarded and one in flight withdrawn. R108, R144: a route that is cleared gives the flags of its steps under the occupancy to the
occupancy holds, and the next duty is computed anew. DOCKED on the final step with no tail
parks a MOVING carriage on its head's occupancy hold, with the duty 0 at once. -/
def Obligations.CancelAndDocked : Prop :=
  ∀ s : State, s.inReset = false → s.role = some .carriage →
    s.mbu.station = .listen ∨ s.mbu.station = .announce ∨ s.mbu.station = .active →
    (∀ k, s.rte.committedLimit = some k → s.rte.state = .moving ∨ s.rte.state = .halted →
      ∃ t, exec .cancel s = .next t ∧ t.rte.state = s.rte.state ∧
        t.rte.route.map (·.num) = (s.rte.route.filter fun st => decide (st.num ≤ k)).map (·.num) ∧
        t.rte.committedLimit = some k ∧ t.rte.misses = 0 ∧ t.rte.holdOff = none ∧ t.mou = { s.mou with next := t.duty } ∧
        t.pos = s.pos ∧ t.dpt.reply = { status := .done, data := [] }) ∧
    (s.rte.state = .routed →
      ∃ t, exec .cancel s = .next t ∧ t.rte.state = .parked ∧ t.rte.route = [] ∧ t.rte.committedLimit = none ∧
        t.rte.offer = none ∧ t.rte.misses = 0 ∧ t.rte.holdOff = none ∧
        (∀ kept, kept = (s.rte.route.filter fun st => !s.rte.beyondLimit st) →
          (kept ≠ [] → t.rte.holds = holdsOf s.occupancy kept) ∧ (kept = [] → t.rte.holds = s.rte.holds)) ∧
        t.mou = { s.mou with next := t.duty } ∧ t.pos.fault = s.pos.fault ∧ t.dpt.reply = { status := .done, data := [] }) ∧
    (s.rte.state = .routed ∨ s.rte.state = .moving ∨ s.rte.state = .halted →
      ∃ t, exec .cancel s = .next t ∧
        (∀ k, s.rte.committedLimit = some k → s.online = true → ArgsLaw s →
          ∀ st ∈ s.rte.route, k < st.num → st.held = true → Releases t.txq st.seg) ∧
        ∀ o e, s.rte.claim = some o → s.txq.find .claim = some e →
          (e.flight = none → ∀ x, t.txq.find .claim = some x → s.txq.nextAge ≤ x.age) ∧
          ∀ f, e.flight = some f →
            t.rte.claim = some { o with withdrawn := true } ∧
              t.txq.find .claim = some { e with flight := some { f with withdrawn := true } }) ∧
    ∀ st before, s.rte.state = .moving → s.tail = none → s.rte.route = before ++ [st] → s.head = some st.seg →
      (∀ b ∈ before, b.seg ≠ st.seg) →
        ∃ t, exec .docked s = .next t ∧ t.rte.state = .parked ∧ t.rte.route = [] ∧ t.rte.committedLimit = none ∧
          t.rte.offer = none ∧ t.rte.misses = 0 ∧
          t.rte.holds = [{ seg := st.seg, held := st.held, formerly := st.formerly }] ∧
          (st.held = true → t.txq = s.txq ∧ t.rte.claim = s.rte.claim) ∧
          t.mou = { s.mou with current := 0, next := 0 } ∧ t.pos.fault = s.pos.fault ∧
          t.dpt.reply = { status := .done, data := [] }

/-- R131: the authority limit is present just where the station is ACTIVE, the engine ROUTED, MOVING or HALTED and the head step valid, and it
is the last step of the unbroken run of valid steps from the head step. R133: the offer rule asks for an offer of the authority limit where the engine
is ROUTED or MOVING, STOP is released and it lies beyond the committed limit. Where the current offer does not name that step, the serial rises by one
modulo 256, the offer becomes that serial, the step and its distance (R9), and OFFER is posted; where it names it, nothing changes; where no offer is
asked for, it is withdrawn with no notice. In a step other than RESET and RESET_RELEASE the serial stays, and with it the offer unless it goes, or one new
offer for another step is made so and posted. -/
def Obligations.AuthorityLimit : Prop :=
  (∀ s : State, RouteLaw s →
    (s.authority.isSome = true ↔
      s.mbu.station = .active ∧ (s.rte.state = .routed ∨ s.rte.state = .moving ∨ s.rte.state = .halted) ∧
        ∃ st, s.headStep = some st ∧ st.held = true ∧ (st.required.isSome → st.confirmed = true)) ∧
    ∀ h k : Nat, s.authority = some k → s.headNum = some h →
      h ≤ k ∧ (∃ st ∈ s.rte.route, st.num = k) ∧
      (∀ st ∈ s.rte.route, h ≤ st.num → st.num ≤ k → st.held = true ∧ (st.required.isSome → st.confirmed = true)) ∧
      (∀ st ∈ s.rte.route, st.num = k + 1 → ¬(st.held = true ∧ (st.required.isSome → st.confirmed = true)))) ∧
  (∀ (s : State) (a : Nat),
    (s.offerable = some a ↔
      (s.rte.state = .routed ∨ s.rte.state = .moving) ∧ s.mou.stop = false ∧ s.authority = some a ∧
        ∃ k, s.rte.committedLimit = some k ∧ k < a) ∧
    (s.offerable = some a → (∀ o, s.rte.offer = some o → o.step ≠ a) →
      s.refreshOffer =
        (s.setRte { s.rte with
          serial := s.rte.serial + 1
          offer := some { serial := s.rte.serial + 1, step := a, distance := s.distance a } }).post
          (.offer (s.rte.serial + 1) a (s.distance a))) ∧
    (∀ o, s.offerable = some a → s.rte.offer = some o → o.step = a → s.refreshOffer = s) ∧
    (s.offerable = none → s.refreshOffer = s.setRte { s.rte with offer := none }) ∧
    ∀ p h, s.pos.place = some p → s.headNum = some h →
      s.distance a = min 16777215 ((s.seg p.head).length - p.offset +
        ((s.rte.route.filter fun st => decide (h < st.num ∧ st.num ≤ a)).map fun st => (s.seg st.seg).length).sum)) ∧
  ∀ s t : State, CommittedLaw s → RouteLaw s → EngineLaw s → RouteQueueLaw s → step s = .next t →
    s.pending.head? ≠ some .reset → s.pending.head? ≠ some .resetRelease →
      (t.rte.serial = s.rte.serial ∧ ∀ o, t.rte.offer = some o → s.rte.offer = some o) ∨
      ∃ o, t.rte.offer = some o ∧ t.offerable = some o.step ∧ o.serial = s.rte.serial + 1 ∧ t.rte.serial = o.serial ∧
        (∀ p, s.rte.offer = some p → p.step ≠ o.step) ∧ o.distance = t.distance o.step ∧
        Posts (s.setDpt { s.dpt with reply := t.dpt.reply, shifted := t.dpt.shifted }) t (.offer o.serial o.step o.distance)

/-- R134, R188: an accepted TAKE commits the steps from the head step through the offered step and leaves the engine MOVING; a TAKE of another
serial is STALE, with the current offer's serial, and changes nothing else. -/
def Obligations.TakeCommitsTheOffer : Prop :=
  ∀ (s : State) (serial : Byte), s.inReset = false → s.role = some .carriage → s.mbu.station = .active →
    s.rte.state = .routed ∨ s.rte.state = .moving →
    (∀ (o : Offer) (h : Nat), s.rte.offer = some o → o.serial = serial → s.headNum = some h → s.offerable = some o.step →
      ∃ t, exec (.take serial) s = .next t ∧
        t.rte = { s.rte with
          state := .moving
          offer := none
          committedLimit := some o.step
          route := s.rte.route.map fun st => if h ≤ st.num ∧ st.num ≤ o.step then { st with committed := true } else st } ∧
        t.mou = { s.mou with next := t.duty } ∧ t.mou.stop = false ∧
        t.dpt = { s.dpt with shifted := some s.dpt.reply, reply := { status := .done, data := [] } } ∧
        t.pos.fault = s.pos.fault ∧ t.pos.place.map (·.head) = s.pos.place.map (·.head) ∧
        t.pos.place.map (·.offset) = s.pos.place.map (·.offset)) ∧
    ((∀ o, s.rte.offer = some o → o.serial ≠ serial) →
      exec (.take serial) s = .next (s.setDpt { s.dpt with
        shifted := some s.dpt.reply
        reply := { status := .stale, data := (s.rte.offer.map (·.serial)).toList } }))

/-- R137, R138: RESUME: DONE without change while STOP is released; refused while KEEP is stopped, a fault is outstanding or a committed step
is not valid; accepted, it releases STOP, and a HALTED engine goes to MOVING, ROUTED or PARKED by what is left of its route. R108, R144: a route that is
cleared gives the flags of its steps under the occupancy to the occupancy holds, and the next duty is computed anew. -/
def Obligations.ResumeReleasesStop : Prop :=
  ∀ s : State, s.inReset = false → s.role = some .carriage → s.mbu.station = .active →
    s.rte.state = .parked ∨ s.rte.state = .routed ∨ s.rte.state = .moving ∨ s.rte.state = .halted →
      (s.mou.stop = false → exec .resume s = .next (s.answer { status := .done, data := [] })) ∧
      (s.mou.stop = true → s.mou.keep = none → exec .resume s = .next (s.answer { status := .refused, data := [5] })) ∧
      (s.mou.stop = true → s.mou.keep.isSome → s.pos.fault.isSome →
        exec .resume s = .next (s.answer { status := .refused, data := [6] })) ∧
      (s.mou.stop = true → s.mou.keep.isSome → s.pos.fault = none → committedValid s.rte.route = false →
        exec .resume s = .next (s.answer { status := .refused, data := [7] })) ∧
      (s.mou.stop = true → s.mou.keep.isSome → s.pos.fault = none → committedValid s.rte.route = true →
        ∃ t, exec .resume s = .next t ∧ t.mou = { s.mou with stop := false, next := t.duty } ∧
          (s.rte.state = .halted → s.committedBeyond = true → t.rte.state = .moving ∧ t.rte.route = s.rte.route) ∧
          (s.rte.state = .halted → s.committedBeyond = false → s.stepsAhead = true →
            t.rte.state = .routed ∧ t.rte.committedLimit = s.headNum ∧
            t.rte.route = s.rte.route.map fun st => { st with committed := false }) ∧
          (s.rte.state = .halted → s.committedBeyond = false → s.stepsAhead = false →
            t.rte.state = .parked ∧ t.rte.route = [] ∧ t.rte.committedLimit = none ∧
            (s.rte.route ≠ [] → t.rte.holds = holdsOf s.occupancy s.rte.route) ∧
            (s.rte.route = [] → t.rte.holds = s.rte.holds)) ∧
          (s.rte.state ≠ .halted → t.rte.state = s.rte.state ∧ t.rte.route = s.rte.route) ∧
          t.dpt.reply = { status := .done, data := [] } ∧ t.pos.fault = none ∧
          t.pos.place.map (·.head) = s.pos.place.map (·.head) ∧ t.pos.place.map (·.offset) = s.pos.place.map (·.offset))

/-- R106, R112, R118 to R121, R125, R127, R135: what a taken frame does at a CARRIAGE. The route follows the change report step by step, with
new claim tags alone beside it; a refusing LIE for one of its steps is posted; the lowest committed step the frame makes not valid is posted LOST, with
STOP asserted and a MOVING engine HALTED. The planner's own claim: a win ends the misses and has the segments it no longer wants released, a loss starts the
hold-off and is counted, one withdrawn is not; a placement reclaim that wins parks the carriage, one that loses gives the placement up. The own
announce returns a carriage with a kept occupancy to PLACING. The step that LOST names, and 255 in HALTED where no head step is, are the model's choices
(log entry 19); the step number in STALLED, that of the bundle's first step when it was queued, is DEDUCED (log entry 21). -/
def Obligations.TakenFramesMoveTheEngine : Prop :=
  ∀ (s : State) (l : LineFrame) (r : Received) (p : Payload) (slots : StationSet) (report : Report) (follow : Step → Step),
    AtTaken s l r slots → s.online = true → s.role = some .carriage → r.content = some p → EngineLaw s → ArgsLaw s →
    report = reportOf s.opr.map s.ctu (frameStation r.frame) p →
    (∀ st, follow st = ((st.follow s.me (1000 * s.option (·.lieWait)) report).unconfirm report).confirm s.me report) →
      ∃ t, exec (takenInstr p.kind slots) s = .next t ∧
        (t.rte.route.map fun st => { st with tag := none }) = (s.rte.route.map fun st => { follow st with tag := none }) ∧
        (∀ seg lie cause tag st, p = .lie seg lie cause (some (s.me, tag)) → report.accepted = true →
          cause = .refusedOccupied ∨ cause = .timeout ∨ cause = .detectorConflict ∨ cause = .lockLost ∨
            cause = .occupiedDuringThrow →
          st ∈ s.rte.route → st.seg = seg → st.tag = some tag → Posts s t (.lieRefused seg lie cause)) ∧
        (∀ before st after, s.rte.route = before ++ st :: after → st.committed = true → st.valid = true →
          (follow st).valid = false → (∀ q ∈ before, q.committed = true → q.valid = true → (follow q).valid = true) →
          Posts s t (.lost st.num st.seg (if (follow st).held then .confirmed else .held)) ∧ t.mou.stop = true ∧
            t.mou.current = 0 ∧ t.mou.next = 0 ∧
            (s.rte.state = .moving → t.rte.state = .halted ∧ Posts s t (.halted .lost (s.headNum.getD 255)))) ∧
        (∀ (e : TxEntry) (f : Flight) (o : Outstanding), l.own.isSome → s.txq.flying = some e → e.key = .claim →
          e.flight = some f → s.rte.claim = some o →
          (report.outcome = some .win →
            t.rte.misses = 0 ∧
            (∀ b ∈ o.bundle, (∀ st ∈ s.rte.route, st.seg ≠ b.seg) → (∀ h ∈ s.rte.holds, h.seg ≠ b.seg) →
              Releases t.txq b.seg) ∧
            (∀ head, o.placement = true → s.head = some head →
              t.rte.state = (if s.rte.locatedHalted then .halted else .parked) ∧ Posts s t (.placedWon head))) ∧
          (∀ cause, report.outcome = some (.loss cause) →
            (o.withdrawn = true → t.rte.misses = s.rte.misses ∧ t.rte.lastLost = s.rte.lastLost ∧
              t.rte.holdOff = s.rte.holdOff) ∧
            (∀ b more, o.withdrawn = false → o.placement = false → o.bundle = b :: more →
              t.rte.claim = none ∧ t.rte.holdOff = some (20 + 2 * s.me.val) ∧ t.rte.lastLost = some b.seg ∧
              (s.rte.lastLost ≠ some b.seg → t.rte.misses = 1) ∧
              (s.rte.lastLost = some b.seg → s.rte.misses ≠ 7 → t.rte.misses = s.rte.misses + 1) ∧
              (s.rte.lastLost = some b.seg → s.rte.misses = 7 →
                t.rte.misses = 0 ∧ Posts s t (.stalled o.first b.seg cause))) ∧
            (∀ head, o.withdrawn = false → o.placement = true → s.head = some head →
              t.rte.state = .unplaced ∧ t.pos.place = none ∧ t.pos.fault = none ∧ t.rte.holds = [] ∧
              Posts s t (.placedLost head cause) ∧ ∀ h ∈ s.rte.holds, h.held = true → Releases t.txq h.seg))) ∧
        (∀ role held blocked lies, s.mbu.station = .announce → l.own.isSome → p = .beacon true role held blocked lies →
          s.rte.state = .unplaced → s.pos.place.isSome → s.rte.claim = none → s.rte.holdOff = none →
          s.txq.find .claim = none → (∃ h ∈ s.rte.holds, h.held = false) →
          t.rte.state = .placing ∧ t.rte.locatedHalted = s.rte.locatedHalted ∧
            ∃ o, t.rte.claim = some o ∧ o.placement = true ∧
              o.bundle = ((s.rte.holds.filter fun h => !h.held).map fun h => { seg := h.seg, required := none }) ∧
              (t.txq.find .claim).map (·.args) = some (.claim true o.bundle s.rte.tagCounter))

/-! ## Motion outputs (chapter 7) -/

/-- R142: the duty, by the distance to the end of the committed limit; 0 with STOP asserted or outside MOVING, which takes effect at once; 0 too
with the head at or past the end. -/
def Obligations.SpeedCapTable : Prop :=
  ∀ (s : State),
    (s.mou.stop = true ∨ s.rte.state ≠ .moving → s.duty = 0) ∧
    (∀ cause, (s.assertStop cause).mou.current = 0 ∧ (s.assertStop cause).mou.next = 0) ∧
    (∀ state, s.rte.state = .moving → state ≠ .moving →
      (s.setEngine state).mou.current = 0 ∧ (s.setEngine state).mou.next = 0) ∧
    (∀ p k, s.pos.place = some p → s.headNum = some k → (s.seg p.head).length ≤ p.offset → s.distance k = 0) ∧
    ∀ (o : Options) (k : Nat), s.opr.options = some o → s.rte.committedLimit = some k →
      s.mou.stop = false → s.rte.state = .moving →
      (s.distance k = 0 → s.duty = 0) ∧
      (0 < s.distance k → s.distance k < o.t1 → s.duty = o.l0) ∧
      (0 < s.distance k → o.t1 ≤ s.distance k → s.distance k < o.t2 → s.duty = o.l1) ∧
      (0 < s.distance k → o.t1 ≤ s.distance k → o.t2 ≤ s.distance k → s.distance k < o.t3 → s.duty = o.l2) ∧
      (0 < s.distance k → o.t1 ≤ s.distance k → o.t2 ≤ s.distance k → o.t3 ≤ s.distance k → s.duty = 16)

/-- R143, R145, R146: the start of a period takes the next duty. KEEP restarts its timer for the full time and releases nothing. The timer's
expiry asserts STOP with cause KEEP where it was released, drops the duty, posts KEEP_LAPSED and halts a MOVING engine. KEEP_LAPSED before HALTED
(log entry 18) and 255 in HALTED where no head step is (log entry 19) are the model's choices. -/
def Obligations.PeriodsAndKeep : Prop :=
  ∀ s : State, s.inReset = false →
    exec .spdPeriodStart s = .next (s.setMou { s.mou with current := s.mou.next }) ∧
    (∀ o, s.opr.options = some o → o.role = .carriage →
      s.mbu.station = .listen ∨ s.mbu.station = .announce ∨ s.mbu.station = .active →
      exec .keep s = .next ((s.setMou { s.mou with keep := some (100 * o.keepCode) }).setDpt
        { s.dpt with shifted := some s.dpt.reply, reply := { status := .done, data := [] } })) ∧
    (s.mou.keep.isSome →
      ∃ t, exec .keepTimerExpiry s = .next t ∧
        t.mou = { stop := true, stopCause := if s.mou.stop then s.mou.stopCause else .keep, current := 0, next := 0,
                  keep := none } ∧
        t.rte = { s.rte with offer := none, state := if s.rte.state = .moving then .halted else s.rte.state } ∧
        t.dpt = (if s.rte.state = .moving then
            (s.dpt.post (.keepLapsed .moving)).post (.halted .keep (s.headNum.getD 255))
          else s.dpt.post (.keepLapsed s.rte.state)) ∧
        t.pos.fault = s.pos.fault ∧ t.pos.place.map (·.head) = s.pos.place.map (·.head) ∧
        t.pos.place.map (·.offset) = s.pos.place.map (·.offset))

/-! ## Position tracking (chapter 8) -/

/-- R150, R151, R153, R154: the filtered level's fall counts nothing, a rise raises the offset, outside MOVING the creep count too; the count
that passes the head segment and the overrun margin is MISSING_TAG, one that passes the creep limit is CREEP, and each asserts STOP and halts
a MOVING engine. A rise of a level that is high changes nothing (log entry 2), and 255 in HALTED where no head step is (log entry 19): the model's
choices. -/
def Obligations.OdometerCounts : Prop :=
  ∀ s : State, s.inReset = false → s.tracking = true →
    exec .filteredOdometerFall s = .next (s.setPos { s.pos with odometer := false }) ∧
    (s.pos.odometer = true → exec .odometerCount s = .next s) ∧
    (s.pos.odometer = false → s.pos.place = none → exec .odometerCount s = .next (s.setPos { s.pos with odometer := true })) ∧
    ∀ p q : Placement, s.pos.odometer = false → s.pos.place = some p → q = { p with offset := min (p.offset + 1) 16777215 } →
      (s.pos.fault.isSome →
        exec .odometerCount s = .next (s.setPos { s.pos with odometer := true, place := some q })) ∧
      (s.pos.fault = none → (p.tail.isSome → q.offset < s.option (·.carriageLength)) →
        q.offset ≤ (s.seg p.head).length + s.option (·.overrunMargin) →
        (s.rte.state = .moving →
          ∃ t, exec .odometerCount s = .next t ∧
            t = (s.setPos { s.pos with odometer := true, place := some q }).setMou { s.mou with next := t.duty }) ∧
        (s.rte.state ≠ .moving → p.creep < s.option (·.creepLimit) →
          exec .odometerCount s = .next (s.setPos { s.pos with
            odometer := true, place := some { q with creep := p.creep + 1 } })) ∧
        (s.rte.state ≠ .moving → s.option (·.creepLimit) ≤ p.creep →
          ∃ t, exec .odometerCount s = .next t ∧
            t.pos = { s.pos with
              odometer := true
              place := some { q with creep := p.creep + 1 }
              fault := some { cause := .creep, first := p.head.val, second := p.creep + 1 } } ∧
            t.mou = { s.mou with
              stop := true, stopCause := if s.mou.stop then s.mou.stopCause else .position, current := 0, next := 0 } ∧
            t.rte = { s.rte with offer := none } ∧ t.txq = s.txq ∧
            t.dpt = s.dpt.post (.position { cause := .creep, first := p.head.val, second := p.creep + 1 }))) ∧
      (s.pos.fault = none → (p.tail.isSome → q.offset < s.option (·.carriageLength)) →
        (s.seg p.head).length + s.option (·.overrunMargin) < q.offset →
        ∃ t, exec .odometerCount s = .next t ∧
          t.pos.fault = some { cause := .missingTag, first := p.head.val, second := q.offset } ∧
          t.pos.place.map (·.offset) = some q.offset ∧
          t.mou = { s.mou with
            stop := true, stopCause := if s.mou.stop then s.mou.stopCause else .position, current := 0, next := 0 } ∧
          t.rte = { s.rte with offer := none, state := if s.rte.state = .moving then .halted else s.rte.state } ∧
          t.txq = s.txq ∧
          t.dpt = (if s.rte.state = .moving then
              (s.dpt.post (.position { cause := .missingTag, first := p.head.val, second := q.offset })).post
                (.halted .position (s.headNum.getD 255))
            else s.dpt.post (.position { cause := .missingTag, first := p.head.val, second := q.offset })))

/-- R123, R152: the count at which the offset reaches the carriage length releases the tail: the step at the front of the queue leaves it, or with
no route loaded the tail's occupancy hold is given up, and a RELEASE of its segment is requested when it was held. -/
def Obligations.TailIsReleased : Prop :=
  ∀ (s : State) (p : Placement), s.inReset = false → s.tracking = true →
    s.pos.odometer = false → s.pos.place = some p → p.tail.isSome → s.pos.fault = none → p.offset < 16777215 →
    s.option (·.carriageLength) ≤ p.offset + 1 → ArgsLaw s →
      ∃ t, exec .odometerCount s = .next t ∧ t.tail = none ∧ t.head = some p.head ∧
        t.pos.place.map (·.offset) = some (p.offset + 1) ∧
        t.pos.place.map (·.boundary) = some p.boundary ∧
        (∀ st rest, s.rte.route = st :: rest →
          t.rte.route.map (·.num) = rest.map (·.num) ∧
          (st.held = true → s.online = true → Releases t.txq st.seg)) ∧
        (s.rte.route = [] →
          t.rte.route = [] ∧ t.rte.holds = s.rte.holds.filter (fun h => some h.seg != p.tail) ∧
          ∀ h ∈ s.rte.holds, some h.seg = p.tail → h.held = true → s.online = true → Releases t.txq h.seg)

/-- R155 to R160: a bad tag is counted and posted; a tag of the boundary just passed is ignored; a match with the next step committed advances
the head, with the tail released first, and ARRIVING posted on the final step; any other good tag is a position fault, which is posted, asserts STOP
and halts a MOVING engine, POSITION before HALTED (R191). R144: a head advance has the next duty computed anew. The tail released before the advance (log
entry 22) and 255 in HALTED where no head step is (log entry 19) are the model's choices. -/
def Obligations.TagsMoveTheHead : Prop :=
  ∀ (s : State) (bits : BitVec 16) (stop : Bool), s.inReset = false → s.tracking = true →
    exec (.tagReceived true bits stop) s = .next s ∧
    (tagBad bits stop = true →
      exec (.tagReceived false bits stop) s = .next
        ((s.setPos { s.pos with badTags := min (s.pos.badTags + 1) 255 }).post
          (.tagBad (min (s.pos.badTags + 1) 255) bits))) ∧
    (tagBad bits stop = false → s.pos.place = none ∨ s.pos.fault.isSome → exec (.tagReceived false bits stop) s = .next s) ∧
    ∀ p, tagBad bits stop = false → s.pos.place = some p → s.pos.fault = none →
      ((p.boundary.any fun b => samePair (tagFrom bits, tagTo bits) b) = true →
        exec (.tagReceived false bits stop) s = .next s) ∧
      ((p.boundary.any fun b => samePair (tagFrom bits, tagTo bits) b) = false →
        (∀ next, s.rte.state = .moving → s.matched (tagFrom bits, tagTo bits) = some next → next.committed = true →
          ∃ t, exec (.tagReceived false bits stop) s = .next t ∧
            t.pos = { s.pos with
              place := some { head := next.seg, tail := some p.head, offset := 0, boundary := some (p.head, next.seg),
                              creep := p.creep } } ∧
            t.rte.state = .moving ∧ t.rte.committedLimit = s.rte.committedLimit ∧ t.mou = { s.mou with next := t.duty } ∧
            (s.rte.isFinal next.num = true → Posts s t (.arriving next.num next.seg)) ∧
            (p.tail = none → t.rte.route.map (·.num) = s.rte.route.map (·.num)) ∧
            ∀ st rest, p.tail.isSome → s.rte.route = st :: rest →
              t.rte.route.map (·.num) = rest.map (·.num) ∧ (st.held = true → ArgsLaw s → s.online = true → Releases t.txq st.seg)) ∧
        (∀ cause, (s.rte.state ≠ .moving ∧ cause = .unexpectedTag) ∨
            (s.rte.state = .moving ∧ s.matched (tagFrom bits, tagTo bits) = none ∧ cause = .wrongTag) ∨
            (s.rte.state = .moving ∧ (∃ next, s.matched (tagFrom bits, tagTo bits) = some next ∧ next.committed = false) ∧
              cause = .overrun) →
          ∃ t, exec (.tagReceived false bits stop) s = .next t ∧ t.mou.stop = true ∧ t.mou.current = 0 ∧ t.mou.next = 0 ∧
            t.rte = { s.rte with offer := none, state := if s.rte.state = .moving then .halted else s.rte.state } ∧
            t.mou.stopCause = (if s.mou.stop then s.mou.stopCause else .position) ∧
            t.dpt = (if s.rte.state = .moving then
                (s.dpt.post (.position { cause := cause, first := (tagFrom bits).val, second := (tagTo bits).val })).post
                  (.halted .position (s.headNum.getD 255))
              else s.dpt.post (.position { cause := cause, first := (tagFrom bits).val, second := (tagTo bits).val })) ∧
            t.txq = s.txq ∧ t.pos.place.map (·.head) = some p.head ∧ t.pos.place.map (·.offset) = some p.offset ∧
            t.pos.fault = some { cause := cause, first := (tagFrom bits).val, second := (tagTo bits).val }))

/-! ## Turnout control (chapter 9) -/

/-- R166, R167, R172: a locked turnout whose lock lets go, or whose other lock shows too, is FAILED; a turnout in UNKNOWN or FAILED that
comes to show one lock takes that lie; a throw that shows its target's lock ends locked, or in FAILED with both locks; the throw timer's expiry
ends a throw in FAILED. A throw's end puts the motor off, and R169: at the end by a lock as by the timer a follow-on is then a won turnout when
its claim still stands, or is dropped. Every other change of a lock level ends nothing and changes the filtered level alone: of the other lock of a locked
turnout to low, of a lock in UNKNOWN or FAILED that leaves both levels alike, and in MOVING any that leaves the target's lock low, as the fall of the lock
that the points leave. A level that the filtered input shows already is no event (log entry 2). -/
def Obligations.DetectorsAndTimeoutEndThrows : Prop :=
  ∀ (s : State) (p : Position) (r : Record) (l : Points), s.inReset = false → s.toc.records[p.val]? = some r →
    let levels := fun (m : Points) (b : Bool) => tabSet s.toc.inputs p (s.toc.inputs[p].setLock m b)
    let lies := fun (lie : Lie) => s.toc.records.map fun q => if q.seg = r.seg then { q with lie := lie } else q
    let ends := fun (lie : Lie) => s.toc.records.map fun q =>
      if q.seg = r.seg then { q with motor := .off, throwTimer := none, target := none, answer := none, lie := lie } else q
    (s.watching = true → s.position r.seg = some p →
      (∀ (m : Points) (b : Bool),
        (s.toc.inputs[p].lock m).level = b ∨
          (r.lie = pointsLie l ∧ (s.toc.inputs[p].lock l).level = true ∧ m = pointsOther l ∧ b = false) ∨
          ((r.lie = .failed ∨ r.lie = .unknown) ∧ (s.toc.inputs[p].lock (pointsOther m)).level = b) ∨
          (r.lie = .moving ∧ r.target = some l ∧
            ((m = l ∧ b = false) ∨ (m = pointsOther l ∧ (s.toc.inputs[p].lock l).level = false))) →
        exec (.lockLevelChange p m b) s = .next (s.setToc { s.toc with inputs := levels m b })) ∧
      (r.lie = pointsLie l → (s.toc.inputs[p].lock l).level = true →
        (∃ t, exec (.lockLevelChange p l false) s = .next t ∧
          t.toc = { s.toc with inputs := levels l false, records := lies .failed } ∧
          t.dpt = s.dpt.post (.throwing r.seg .failed .lockLost) ∧
          t.txq = (s.txRequest (.lie r.seg) (.lie .lockLost none)).txq) ∧
        ((s.toc.inputs[p].lock (pointsOther l)).level = false →
          ∃ t, exec (.lockLevelChange p (pointsOther l) true) s = .next t ∧
            t.toc = { s.toc with inputs := levels (pointsOther l) true, records := lies .failed } ∧
            t.dpt = s.dpt.post (.throwing r.seg .failed .detectorConflict) ∧
            t.txq = (s.txRequest (.lie r.seg) (.lie .detectorConflict none)).txq)) ∧
      (∀ (m : Points) (b : Bool), r.lie = .failed ∨ r.lie = .unknown →
        (m = l ∧ b = true ∧ (s.toc.inputs[p].lock l).level = false ∧ (s.toc.inputs[p].lock (pointsOther l)).level = false) ∨
          (m = pointsOther l ∧ b = false ∧ (s.toc.inputs[p].lock l).level = true ∧
            (s.toc.inputs[p].lock (pointsOther l)).level = true) →
        ∃ t, exec (.lockLevelChange p m b) s = .next t ∧
          t.toc = { s.toc with inputs := levels m b, records := lies (pointsLie l) } ∧
          t.dpt = s.dpt.post (.throwing r.seg (pointsLie l) .report) ∧
          t.txq = (s.txRequest (.lie r.seg)
            (.lie .report (s.ctu[r.seg].holder.map fun k => { claimant := k, tag := none }))).txq) ∧
      (r.lie = .moving → r.target = some l → r.followOn = none → (s.toc.inputs[p].lock l).level = false →
        ((s.toc.inputs[p].lock (pointsOther l)).level = false →
          ∃ t, exec (.lockLevelChange p l true) s = .next t ∧
            t.toc = { s.toc with inputs := levels l true, records := ends (pointsLie l) } ∧
            t.dpt = s.dpt.post
              (.throwing r.seg (pointsLie l) (if r.answer.any fun a => a.tag.isNone then .report else .done)) ∧
            t.txq = (s.txRequest (.lie r.seg)
              (.lie (if r.answer.any fun a => a.tag.isNone then .report else .done) r.answer)).txq) ∧
        ((s.toc.inputs[p].lock (pointsOther l)).level = true →
          ∃ t, exec (.lockLevelChange p l true) s = .next t ∧
            t.toc = { s.toc with inputs := levels l true, records := ends .failed } ∧
            t.dpt = s.dpt.post (.throwing r.seg .failed .detectorConflict) ∧
            t.txq = (s.txRequest (.lie r.seg)
              (.lie .detectorConflict (r.answer.filter fun a => a.tag.isSome))).txq)) ∧
      ∀ (f : FollowOn) (lie : Lie) (cause : LieCause) (answer : Option Answer) (u : State),
        r.lie = .moving → r.target = some l → r.followOn = some f → (s.toc.inputs[p].lock l).level = false →
        ((s.toc.inputs[p].lock (pointsOther l)).level = false ∧ lie = pointsLie l ∧ answer = r.answer ∧
            cause = (if r.answer.any fun a => a.tag.isNone then .report else .done)) ∨
          ((s.toc.inputs[p].lock (pointsOther l)).level = true ∧ lie = .failed ∧ cause = .detectorConflict ∧
            answer = r.answer.filter fun a => a.tag.isSome) →
        u = ((s.setToc { s.toc with
            inputs := levels l true
            records := s.toc.records.map fun q =>
              if q.seg = r.seg then
                { q with motor := .off, throwTimer := none, target := none, answer := none, followOn := none, lie := lie }
              else q }).post (.throwing r.seg lie cause)).txRequest (.lie r.seg) (.lie cause answer) →
        (s.ctu[r.seg].claim = .held f.answer.claimant (some f.target) →
          exec (.lockLevelChange p l true) s = .next (u.wonTurnout r.seg (some f.target) f.answer)) ∧
        (s.ctu[r.seg].claim ≠ .held f.answer.claimant (some f.target) → exec (.lockLevelChange p l true) s = .next u)) ∧
    (r.throwTimer.isSome →
      (r.followOn = none →
        exec (.throwTimerExpiry p) s = .next
          (((s.setToc { s.toc with records := ends .failed }).post (.throwing r.seg .failed .timeout)).txRequest (.lie r.seg)
            (.lie .timeout (r.answer.filter fun a => a.tag.isSome)))) ∧
      ∀ (f : FollowOn) (u : State), r.followOn = some f →
        u = ((s.setToc { s.toc with records := s.toc.records.map fun q =>
            if q.seg = r.seg then
              { q with motor := .off, throwTimer := none, target := none, answer := none, followOn := none, lie := .failed }
            else q }).post (.throwing r.seg .failed .timeout)).txRequest (.lie r.seg)
              (.lie .timeout (r.answer.filter fun a => a.tag.isSome)) →
        (s.ctu[r.seg].claim = .held f.answer.claimant (some f.target) →
          exec (.throwTimerExpiry p) s = .next (u.wonTurnout r.seg (some f.target) f.answer)) ∧
        (s.ctu[r.seg].claim ≠ .held f.answer.claimant (some f.target) → exec (.throwTimerExpiry p) s = .next u))

/-- R171: at the stagger's expiry the oldest queued turnout starts when its occupancy is low and the table shows it held as the start check
asks: motor on towards its target, lie MOVING, both timers started; an empty queue starts nothing. R172: a throw whose target's lock level is high at
the motor start ends in that event, locked or in conflict. A turnout whose check fails leaves the queue
with its target and answer part, with LIE REFUSED-OCCUPIED where the occupancy failed it, and the next one is checked. -/
def Obligations.StaggerStartsTheOldest : Prop :=
  ∀ s : State, s.inReset = false → s.toc.stagger.isSome →
    (s.toc.queue = [] → exec .staggerExpiry s = .next (s.setToc { s.toc with stagger := none })) ∧
    ∀ (seg : Seg) (rest : List Seg) (r : Record) (target : Points),
      s.toc.queue = seg :: rest → seg ∉ rest → s.toc.record seg = some r → r.target = some target →
      (s.occupied seg = false → s.startHeld r target = true → s.lockHigh seg target = false →
        ∃ t, exec .staggerExpiry s = .next t ∧ t.toc.queue = rest ∧
          t.toc.record seg = some { r with
            lie := .moving, motor := motorFor target, throwTimer := some (1000 * s.option (·.throwTime)) } ∧
          (∀ other, other ≠ seg → t.toc.record other = s.toc.record other) ∧
          t.toc.stagger = some (100 * s.option (·.staggerCode)) ∧ t.toc.inputs = s.toc.inputs ∧
          t.dpt = s.dpt.post (.throwing seg .moving .moving) ∧
          t.txq = (s.txRequest (.lie seg) (.lie .moving (r.answer.filter fun a => a.tag.isSome))).txq) ∧
      (s.occupied seg = false → s.startHeld r target = true → s.lockHigh seg target = true →
        ∃ t, exec .staggerExpiry s = .next t ∧ t.toc.queue = rest ∧ EndsAtOnce s t r target r.answer) ∧
      ∀ u : State,
        u = s.setToc { s.toc with
          queue := rest
          records := s.toc.records.map fun q => if q.seg = seg then { q with target := none, answer := none } else q } →
        (s.occupied seg = true →
          exec .staggerExpiry s = exec .staggerExpiry
            (u.txRequest (.lie seg) (.lie .refusedOccupied (r.answer.filter fun a => a.tag.isSome)))) ∧
        (s.occupied seg = false → s.startHeld r target = false → exec .staggerExpiry s = exec .staggerExpiry u)

/-- R173, R176: a change of the occupancy level is posted, a rise guards a FREE turnout while the station is in ANNOUNCE or ACTIVE, takes a
queued turnout out of the start queue with LIE REFUSED-OCCUPIED, and stops a running motor in that event with OCCUPIED-DURING-THROW; R169: a
follow-on of that throw is then a won turnout of an occupied turnout when its claim still stands, or is dropped. OCCUPANCY
before THROW, and the GUARD requested before the LIE, are the model's choices (log entry 20). -/
def Obligations.OccupancyChanges : Prop :=
  ∀ (s : State) (p : Position) (r : Record), s.inReset = false → s.watching = true → s.toc.records[p.val]? = some r →
    (s.toc.inputs[p].occupancy.level = true →
      exec (.occupancyChange p false) s = .next
        ((s.setInputs p { s.toc.inputs[p] with occupancy := { level := false, settled := true } }).post
          (.occupancy r.seg false false))) ∧
    ∀ (g : Bool) (u : State), s.toc.inputs[p].occupancy.level = false →
      (g = true ↔ s.online = true ∧ s.ctu[r.seg].claim = .free) →
      u = (if g then s.txRequest .guard (.segs (segOne r.seg)) else s) →
      (r.lie ≠ .moving → s.toc.queue.contains r.seg = false →
        exec (.occupancyChange p true) s = .next
          ((u.setInputs p { s.toc.inputs[p] with occupancy := { level := true, settled := true } }).post
            (.occupancy r.seg true g))) ∧
      (r.lie ≠ .moving → s.toc.queue.contains r.seg = true →
        ∃ t, exec (.occupancyChange p true) s = .next t ∧
          t.toc = { s.toc with
            inputs := tabSet s.toc.inputs p { s.toc.inputs[p] with occupancy := { level := true, settled := true } }
            queue := s.toc.queue.filter (· != r.seg)
            records := s.toc.records.map fun q => if q.seg = r.seg then { q with target := none, answer := none } else q } ∧
          t.dpt = s.dpt.post (.occupancy r.seg true g) ∧
          t.txq = (u.txRequest (.lie r.seg) (.lie .refusedOccupied (r.answer.filter fun a => a.tag.isSome))).txq) ∧
      (r.lie = .moving → r.followOn = none →
        ∃ t, exec (.occupancyChange p true) s = .next t ∧
          t.toc = { s.toc with
            inputs := tabSet s.toc.inputs p { s.toc.inputs[p] with occupancy := { level := true, settled := true } }
            records := s.toc.records.map fun q =>
              if q.seg = r.seg then
                { q with motor := .off, throwTimer := none, target := none, answer := none, lie := .failed } else q } ∧
          t.dpt = (s.dpt.post (.occupancy r.seg true g)).post (.throwing r.seg .failed .occupiedDuringThrow) ∧
          t.txq = (u.txRequest (.lie r.seg)
            (.lie .occupiedDuringThrow (r.answer.filter fun a => a.tag.isSome))).txq) ∧
      ∀ (f : FollowOn) (v : State), r.lie = .moving → r.followOn = some f →
        v = (((u.setToc { s.toc with
            inputs := tabSet s.toc.inputs p { s.toc.inputs[p] with occupancy := { level := true, settled := true } }
            records := s.toc.records.map fun q =>
              if q.seg = r.seg then
                { q with motor := .off, throwTimer := none, target := none, answer := none, followOn := none, lie := .failed }
              else q }).post (.occupancy r.seg true g)).post (.throwing r.seg .failed .occupiedDuringThrow)).txRequest
                (.lie r.seg) (.lie .occupiedDuringThrow (r.answer.filter fun a => a.tag.isSome)) →
        (s.ctu[r.seg].claim = .held f.answer.claimant (some f.target) →
          exec (.occupancyChange p true) s = .next (v.wonTurnout r.seg (some f.target) f.answer)) ∧
        (s.ctu[r.seg].claim ≠ .held f.answer.claimant (some f.target) → exec (.occupancyChange p true) s = .next v)

/-- R168 to R171, R174, R178: a won turnout, case by case; an accepted THROW: of a turnout at rest in another lie, which joins the start
queue with no answer part, of one queued, which keeps its place, and of one MOVING towards the lie. A turnout that joins waits while the
stagger runs; where it does not run and the queue is empty, the start check is made at once: the motor starts, and R172: the throw ends in that event
where the target's lock level is high already, or the turnout leaves the queue again. At a wayside a taken frame that wins has every owned turnout of its bundle treated so, in owned-list order; any other takes the
queued turnouts that stop being HELD out of the queue; the own lapse has every locked turnout reported; and the entry to ACTIVE has every
HELD one reported, and queued or treated as won by its holder with no tag (the REPORTs of an own lapse are requested in owned-list order: log entry
20). That a THROW of a turnout locked in the lie changes nothing
though it is queued for the other, and that a turnout MOVING at the entry to ACTIVE with required lie NONE is only reported, are the model's
choices (log entry 27). -/
def Obligations.WonAndThrownTurnouts : Prop :=
  (∀ (s : State) (seg : Seg) (p : Points) (a : Answer),
    (a.tag.isSome →
      s.wonTurnout seg none a = s.txRequest (.lie seg) (.lie .confirmed (some a)) ∧
      (s.toc.lieOf seg = pointsLie p → s.wonTurnout seg (some p) a = s.txRequest (.lie seg) (.lie .confirmed (some a))) ∧
      (s.toc.lieOf seg = .moving →
        s.wonTurnout seg (some p) a = s.setToc { s.toc with
          records := s.toc.records.map fun r =>
            if r.seg = seg then
              if r.target = some p then { r with answer := some a }
              else { r with followOn := some { target := p, answer := a } }
            else r }) ∧
      (s.toc.lieOf seg ≠ pointsLie p → s.toc.lieOf seg ≠ .moving → s.occupied seg = true →
        s.wonTurnout seg (some p) a = s.txRequest (.lie seg) (.lie .refusedOccupied (some a))) ∧
      (s.toc.lieOf seg ≠ pointsLie p → s.toc.lieOf seg ≠ .moving → s.occupied seg = false → s.toc.stagger.isSome →
        s.wonTurnout seg (some p) a = s.setToc { s.toc with
          queue := s.toc.queue ++ [seg]
          records := s.toc.records.map fun r =>
            if r.seg = seg then { r with target := some p, answer := some a } else r })) ∧
    (s.inReset = false → s.role = some .wayside → s.mbu.station = .active → s.owned.contains seg = true →
      s.ctu[seg].holder = some s.me → s.occupied seg = false → s.throwsAway seg p = false →
      (s.toc.lieOf seg = pointsLie p →
        exec (.throw (segByte seg) (byteOf (requiredCode (some p)))) s = .next (s.answer { status := .done, data := [] })) ∧
      (s.toc.lieOf seg = .moving →
        exec (.throw (segByte seg) (byteOf (requiredCode (some p)))) s = .next (s.answer { status := .done, data := [] })) ∧
      (s.toc.lieOf seg ≠ pointsLie p → s.toc.lieOf seg ≠ .moving → s.toc.queue.contains seg = true →
        exec (.throw (segByte seg) (byteOf (requiredCode (some p)))) s = .next
          ((s.setToc { s.toc with
            records := s.toc.records.map fun r =>
              if r.seg = seg then { r with target := some p, answer := none } else r }).answer { status := .done, data := [] })) ∧
      (s.toc.lieOf seg ≠ pointsLie p → s.toc.lieOf seg ≠ .moving → s.toc.queue.contains seg = false → s.toc.stagger.isSome →
        exec (.throw (segByte seg) (byteOf (requiredCode (some p)))) s = .next
          ((s.setToc { s.toc with
            queue := s.toc.queue ++ [seg]
            records := s.toc.records.map fun r =>
              if r.seg = seg then { r with target := some p, answer := none } else r }).answer { status := .done, data := [] })))) ∧
  (∀ (s : State) (r : Record) (p : Points), s.toc.stagger = none → s.toc.queue = [] → s.toc.record r.seg = some r →
    r.lie ≠ pointsLie p → r.lie ≠ .moving → s.occupied r.seg = false →
    (s.lockHigh r.seg p = false →
      (∀ (a : Answer) (h : Station) (required : Option Points), s.ctu[r.seg].claim = .held h required →
        h = s.me ∨ required = some p → StartsAtOnce s (s.wonTurnout r.seg (some p) a) r p (some a)) ∧
      (s.inReset = false → s.role = some .wayside → s.mbu.station = .active → s.owned.contains r.seg = true →
        s.ctu[r.seg].holder = some s.me →
        ∃ u, exec (.throw (segByte r.seg) (byteOf (requiredCode (some p)))) s = .next (u.answer { status := .done, data := [] }) ∧
          StartsAtOnce s u r p none)) ∧
    (s.lockHigh r.seg p = true →
      (∀ (a : Answer) (h : Station) (required : Option Points), s.ctu[r.seg].claim = .held h required →
        h = s.me ∨ required = some p →
        (s.wonTurnout r.seg (some p) a).toc.queue = [] ∧ EndsAtOnce s (s.wonTurnout r.seg (some p) a) r p (some a)) ∧
      (s.inReset = false → s.role = some .wayside → s.mbu.station = .active → s.owned.contains r.seg = true →
        s.ctu[r.seg].holder = some s.me →
        ∃ u, exec (.throw (segByte r.seg) (byteOf (requiredCode (some p)))) s = .next (u.answer { status := .done, data := [] }) ∧
          u.toc.queue = [] ∧ EndsAtOnce s u r p none)) ∧
    ∀ a : Answer, (∀ h required, s.ctu[r.seg].claim = .held h required → h ≠ s.me ∧ required ≠ some p) →
      s.wonTurnout r.seg (some p) a = s.setToc { s.toc with
        records := s.toc.records.map fun q => if q.seg = r.seg then { q with target := none, answer := none } else q }) ∧
  ∀ (s : State) (l : LineFrame) (r : Received) (p : Payload) (slots : StationSet) (table : Table),
    AtTaken s l r slots → s.online = true → s.role = some .wayside → r.content = some p →
    table = applyPayload s.opr.map s.ctu (frameStation r.frame) p →
      (∀ (tag : Tag) (bundle : List BundleEntry) (u : State), p = .claim tag bundle ∨ p = .reclaim tag bundle →
        (reportOf s.opr.map s.ctu (frameStation r.frame) p).outcome = some .win →
        u = s.owned.foldl (fun v seg =>
          match bundle.find? fun e => e.seg == seg with
          | some e => v.wonTurnout seg e.required { claimant := frameStation r.frame, tag := some tag }
          | none => v) (s.setCtu table) →
        ∃ t, exec (takenInstr p.kind slots) s = .next t ∧ { t.toc with claiming := s.toc.claiming } = u.toc ∧
          (l.own = none → ∀ seg, t.txq.find (.lie seg) = u.txq.find (.lie seg))) ∧
      (∀ cause, (reportOf s.opr.map s.ctu (frameStation r.frame) p).outcome = some (.loss cause) →
        ∃ t, exec (takenInstr p.kind slots) s = .next t ∧ { t.toc with claiming := s.toc.claiming } = s.toc ∧
          (l.own = none → ∀ seg, t.txq.find (.lie seg) = s.txq.find (.lie seg))) ∧
      (p.kind ≠ .claim → p.kind ≠ .reclaim →
        ¬(s.mbu.station = .announce ∧ l.own.isSome ∧ ∃ role held blocked lies, p = .beacon true role held blocked lies) →
        ∀ gone : Seg → Bool,
        (∀ seg, gone seg = true ↔
          seg ∈ s.toc.queue ∧ s.ctu[seg].digestByte ≠ table[seg].digestByte ∧ table[seg].isHeld = false) →
        ∃ t, exec (takenInstr p.kind slots) s = .next t ∧
          { t.toc with claiming := s.toc.claiming } = { s.toc with
            queue := s.toc.queue.filter fun seg => !gone seg
            records := s.toc.records.map fun q => if gone q.seg then { q with target := none, answer := none } else q } ∧
          ∀ set seg, p = .lapse set → stationHas set s.me = true → s.owned.contains seg = true → s.owned.Nodup →
            s.toc.lieOf seg = .normal ∨ s.toc.lieOf seg = .reverse → s.txq.find (.lie seg) = none →
            (t.txq.find (.lie seg)).map (·.args) =
              some (.lie .report (table[seg].holder.map fun k => { claimant := k, tag := none }))) ∧
      (∀ role held blocked lies, s.mbu.station = .announce → l.own.isSome → p = .beacon true role held blocked lies →
        (∀ e, s.txq.flying = some e → e.key = .beacon) → ∀ u : State,
        u = s.owned.foldl (fun v seg =>
          match table[seg].claim with
          | .held h required =>
            let w := v.txRequest (.lie seg) (.lie .report (some { claimant := h, tag := none }))
            match required with
            | none => w
            | some target =>
              if w.toc.lieOf seg = .moving then w.wonTurnout seg (some target) { claimant := h, tag := none }
              else if w.toc.lieOf seg = pointsLie target ∨ w.occupied seg = true ∨ w.toc.queue.contains seg = true then w
              else w.joinQueue seg target (some { claimant := h, tag := none })
          | _ => v) (s.setCtu table) →
        ∃ t, exec (takenInstr .beacon slots) s = .next t ∧ t.mbu.station = .active ∧ t.toc = u.toc ∧
          ∀ seg, t.txq.find (.lie seg) = u.txq.find (.lie seg))

/-- R128 to R130, R186: CLEAR requests a CLEAR of its segments; POSSESS requests one CLAIM with every required lie NONE and tag 0; UNPOSSESS
requests a RELEASE of everything held, discards a possession claim that still waits, and withdraws one in flight. At the verdict TAKEN of
the possession claim it is no longer outstanding: a win is posted, and released again where it was withdrawn; a loss is posted unless it was
withdrawn (R125: then nothing of it is). A taken LAPSE naming this station and a taken RELEASE that frees possessed segments post the end of
possessions with their number. BLOCKED posted with number 0 too, and what is posted for a withdrawn claim, are DEDUCED (log entry 24). -/
def Obligations.ClearPossessAndUnpossess : Prop :=
  (∀ (s : State) (segs : List Seg), s.inReset = false → s.mbu.station = .active →
    (s.opr.options.isSome → 1 ≤ segs.length → segs.length ≤ 12 → (segs.all fun seg => (s.seg seg).defined) = true →
      distinct segs = true →
      exec (.clearCommand (segs.map segByte)) s = .next
        ((s.setTxq (s.txq.request .clear (.segs (segSetOf segs)))).answer { status := .done, data := [] })) ∧
    (s.role = some .wayside →
      (s.toc.claiming = false → 1 ≤ segs.length → segs.length ≤ 6 → (segs.all fun seg => (s.seg seg).defined) = true →
        distinct segs = true → s.txq.find .claim = none →
        exec (.possess (segs.map segByte)) s = .next
          (((s.setTxq { entries := s.txq.entries ++
              [{ key := .claim, args := .claim false (segs.map fun seg => { seg := seg, required := none }) 0,
                 age := s.txq.nextAge, flight := none }],
                        nextAge := s.txq.nextAge + 1 }).setToc
            { s.toc with claiming := true }).answer { status := .done, data := [] })) ∧
      (s.toc.claiming = true → 1 ≤ segs.length → segs.length ≤ 6 →
        exec (.possess (segs.map segByte)) s = .next (s.answer { status := .refused, data := [9] })) ∧
      (s.toc.claiming = false →
        exec .unpossess s = .next
          ((s.setTxq (s.txq.request .release (.segs (segSetOf ((holdings s.ctu s.me).map (·.seg)))))).answer
            { status := .done, data := [] })) ∧
      (∀ e, s.toc.claiming = true → s.txq.find .claim = some e → e.flight = none →
        exec .unpossess s = .next
          (((s.setTxq ((s.txq.replace .claim none).request .release
              (.segs (segSetOf ((holdings s.ctu s.me).map (·.seg)))))).setToc
            { s.toc with claiming := false }).answer { status := .done, data := [] })) ∧
      (∀ e f, s.toc.claiming = true → s.txq.find .claim = some e → e.flight = some f →
        exec .unpossess s = .next
          ((s.setTxq ((s.txq.replace .claim (some { e with flight := some { f with withdrawn := true } })).request .release
            (.segs (segSetOf ((holdings s.ctu s.me).map (·.seg)))))).answer { status := .done, data := [] })))) ∧
  ∀ (s : State) (l : LineFrame) (r : Received) (p : Payload) (slots : StationSet),
    AtTaken s l r slots → s.online = true → s.role = some .wayside → r.content = some p →
      ∃ t, exec (takenInstr p.kind slots) s = .next t ∧
        (∀ (e : TxEntry) (f : Flight) (tag : Tag) (bundle : List BundleEntry), l.own.isSome → s.txq.flying = some e →
          e.key = .claim → e.flight = some f → p = .claim tag bundle ∨ p = .reclaim tag bundle →
          t.toc.claiming = false ∧
            ((reportOf s.opr.map s.ctu (frameStation r.frame) p).outcome = some .win →
              Posts s t (.possessionWon bundle.length) ∧
                (f.withdrawn = true → ArgsLaw s → ∀ b ∈ bundle, Releases t.txq b.seg)) ∧
            ∀ cause b more, (reportOf s.opr.map s.ctu (frameStation r.frame) p).outcome = some (.loss cause) →
              (f.withdrawn = false → bundle = b :: more → Posts s t (.possessionLost b.seg cause)) ∧
                (f.withdrawn = true → ∃ ns : List Notice, t.dpt = ns.foldl Dpt.post s.dpt ∧
                  ∀ n ∈ ns, (∀ k, n ≠ .possessionWon k) ∧ (∀ seg c, n ≠ .possessionLost seg c) ∧
                    ∀ how k, n ≠ .possessionOver how k)) ∧
        ∀ n : Nat, n = (allSegs.filter fun i => s.ctu[i].heldBy s.me && !t.ctu[i].heldBy s.me).length →
          (∀ set, p = .lapse set → stationHas set s.me = true → Posts s t (.possessionOver .blocked n)) ∧
          ∀ segs, p = .release segs → 0 < n → Posts s t (.possessionOver .released n)

/-! ## The drive port (chapter 10) -/

/-- R181, R182: a busy transaction, and every transaction in START, shifts out BUSY and changes nothing else; a message that declares no
command is INVALID; in CONFIG_FAULT the commands but STATUS, NOTICE, READ ENTRY and READ PEER are refused NOT_ACTIVE; a command of the other role
is answered ROLE; one with a parameter out of its range INVALID; and each command's own tests (R110, R113, R124, R128, R130, R134, R137, R139,
R145, R170, R186) refuse it in their order with their reason. Each of these changes nothing but the reply. -/
def Obligations.PortTestsComeFirst : Prop :=
  ∀ (s : State) (i : Instr) (m : List Byte), s.inReset = false →
    let answered := fun (status : Status) (data : List Byte) =>
      s.setDpt { s.dpt with shifted := some s.dpt.reply, reply := { status := status, data := data } }
    exec .busyTransaction s = .next (s.setDpt { s.dpt with shifted := some { status := .busy, data := [] } }) ∧
    (s.mbu.station = .start → messageOf i = some m ∨ (i = .invalidCommand m ∧ commandOf m = none) →
      exec i s = .next (s.setDpt { s.dpt with shifted := some { status := .busy, data := [] } })) ∧
    (commandOf m = none → s.mbu.station ≠ .start → exec (.invalidCommand m) s = .next (answered .invalid [])) ∧
    (s.mbu.station = .configFault → i.wellFormed = true → messageOf i = some m → i ≠ .status → i ≠ .notice →
      (∀ b, i ≠ .readEntry b) → (∀ b, i ≠ .readPeer b) → exec i s = .next (answered .refused [1])) ∧
    (s.mbu.station ≠ .start → s.mbu.station ≠ .configFault → i.wellFormed = true →
      ((s.role = some .wayside ∧ ((∃ h o t, i = .locate h o t) ∨ (∃ b, i = .loadRoute b) ∨ i = .cancel ∨ (∃ b, i = .take b) ∨
          i = .resume ∨ i = .docked ∨ i = .keep)) ∨
        (s.role = some .carriage ∧ ((∃ b, i = .possess b) ∨ i = .unpossess ∨ (∃ a b, i = .throw a b))) →
        exec i s = .next (answered .role [])) ∧
      ((∃ bs, i = .clearCommand bs ∧ ∃ b ∈ bs, 64 ≤ b.toNat) ∨
        (s.role = some .carriage ∧
          ((∃ h o t, i = .locate h o t ∧ (64 ≤ h.toNat ∨ 65535 < o.toNat ∨ ∃ b, t = some b ∧ 64 ≤ b.toNat)) ∨
            ∃ bs, i = .loadRoute bs ∧ ∃ b ∈ bs, 64 ≤ b.toNat)) ∨
        (s.role = some .wayside ∧
          ((∃ bs, i = .possess bs ∧ ∃ b ∈ bs, 64 ≤ b.toNat) ∨
            ∃ a b, i = .throw a b ∧ (64 ≤ a.toNat ∨ (b.toNat ≠ 1 ∧ b.toNat ≠ 2)))) →
        exec i s = .next (answered .invalid []))) ∧
    (s.mbu.station ≠ .start → s.mbu.station ≠ .configFault →
      let active := s.mbu.station = .active
      let undefined := fun segs : List Seg => ∃ seg ∈ segs, (s.seg seg).defined = false
      ∀ (segs : List Seg) (head seg : Seg) (tail : Option Seg) (offset : BitVec 24) (serial : Byte) (l : Points),
        let refused := fun (j : Instr) (code : Byte) => exec j s = .next (answered .refused [code])
        (1 ≤ segs.length → segs.length ≤ 12 →
          (¬active → refused (.clearCommand (segs.map segByte)) 1) ∧
          (active → undefined segs → refused (.clearCommand (segs.map segByte)) 10) ∧
          (active → ¬undefined segs → ¬segs.Nodup → refused (.clearCommand (segs.map segByte)) 11)) ∧
        (s.role = some .carriage →
          (offset.toNat ≤ 65535 →
            let placed := s.rte.state = .placing ∨ s.rte.state = .routed ∨ s.rte.state = .moving
            (¬active → refused (.locate (segByte head) offset (tail.map segByte)) 1) ∧
            (active → placed → refused (.locate (segByte head) offset (tail.map segByte)) 2) ∧
            (active → ¬placed →
              (s.seg head).defined = false ∨
                (∃ t, tail = some t ∧ ((s.seg t).defined = false ∨ t = head ∨ meetings s.opr.map head t = [] ∨
                  s.option (·.carriageLength) ≤ offset.toNat)) ∨
                (tail = none ∧ (s.seg head).length < offset.toNat) →
              refused (.locate (segByte head) offset (tail.map segByte)) 3)) ∧
          (1 ≤ segs.length → segs.length ≤ 16 →
            (s.mbu.station = .duplicateHalt → refused (.loadRoute (segs.map segByte)) 1) ∧
            (s.mbu.station ≠ .duplicateHalt → s.rte.state ≠ .parked → refused (.loadRoute (segs.map segByte)) 2) ∧
            (s.mbu.station ≠ .duplicateHalt → s.rte.state = .parked → s.tail.isSome →
              refused (.loadRoute (segs.map segByte)) 4)) ∧
          (s.mbu.station = .duplicateHalt → refused .cancel 1 ∧ refused .docked 1 ∧ refused .keep 1) ∧
          (s.mbu.station ≠ .duplicateHalt →
            (s.rte.state = .unplaced ∨ s.rte.state = .placing ∨ s.rte.state = .parked → refused .cancel 2) ∧
            (s.rte.state ≠ .moving → refused .docked 2) ∧
            (s.rte.state = .moving →
              (s.tail.isSome ∨ ∀ st last, s.headStep = some st → s.rte.route.getLast? = some last → last.num ≠ st.num) →
              refused .docked 8)) ∧
          (¬active → refused (.take serial) 1 ∧ refused .resume 1) ∧
          (active → s.rte.state ≠ .routed → s.rte.state ≠ .moving → refused (.take serial) 2) ∧
          (active → s.rte.state = .unplaced ∨ s.rte.state = .placing → refused .resume 2)) ∧
        (s.role = some .wayside →
          (¬active → refused .unpossess 1 ∧ refused (.throw (segByte seg) (byteOf (requiredCode (some l)))) 1) ∧
          (1 ≤ segs.length → segs.length ≤ 6 →
            (¬active → refused (.possess (segs.map segByte)) 1) ∧
            (active → s.toc.claiming = true → refused (.possess (segs.map segByte)) 9) ∧
            (active → s.toc.claiming = false → undefined segs → refused (.possess (segs.map segByte)) 10) ∧
            (active → s.toc.claiming = false → ¬undefined segs → ¬segs.Nodup → refused (.possess (segs.map segByte)) 11)) ∧
          (active →
            (seg ∉ s.owned → refused (.throw (segByte seg) (byteOf (requiredCode (some l)))) 12) ∧
            (seg ∈ s.owned → s.ctu[seg].holder ≠ some s.me →
              refused (.throw (segByte seg) (byteOf (requiredCode (some l)))) 13) ∧
            (seg ∈ s.owned → s.ctu[seg].holder = some s.me → s.occupied seg = true →
              refused (.throw (segByte seg) (byteOf (requiredCode (some l)))) 14) ∧
            (seg ∈ s.owned → s.ctu[seg].holder = some s.me → s.occupied seg = false →
              (∃ r, s.toc.record seg = some r ∧ r.lie = .moving ∧ r.target ≠ some l) →
              refused (.throw (segByte seg) (byteOf (requiredCode (some l)))) 15))))

/-- R183 to R185, R190 to R192: STATUS, READ ENTRY and READ PEER answer from the state as it stands and change nothing but the reply; NOTICE
removes the oldest notice or answers EMPTY; a posting is queued behind the others or counted; NTC shows that one waits. The bytes of each reply, with
the codes of R182; that bits 6 to 3 of byte 14 of a carriage's STATUS are 0 is the model's choice (log entry 28). -/
def Obligations.QueriesAndNotices : Prop :=
  (∀ (s : State) (b : Byte) (n : Notice),
    (s.inReset = false → s.mbu.station ≠ .start →
      exec .status s = .next (s.answer { status := .done, data := s.statusData }) ∧
      s.statusData.length = 23 ∧
      (∀ seg : Seg, exec (.readEntry (segByte seg)) s = .next (s.answer { status := .done, data := entryData s.ctu[seg] })) ∧
      (64 ≤ b.toNat → exec (.readEntry b) s = .next (s.answer { status := .invalid, data := [] })) ∧
      (∀ k : Station, 1 ≤ k.val → k.val ≤ 30 →
        exec (.readPeer (byteOf k.val)) s = .next (s.answer { status := .done, data := peerData s.mbu.peers[k] })) ∧
      (b.toNat = 0 ∨ 30 < b.toNat → exec (.readPeer b) s = .next (s.answer { status := .invalid, data := [] })) ∧
      (s.dpt.notices = [] → exec .notice s = .next (s.answer { status := .empty, data := [] })) ∧
      (∀ rest, s.dpt.notices = n :: rest → exec .notice s = .next (s.setDpt { s.dpt with
        notices := rest, shifted := some s.dpt.reply, reply := { status := .done, data := n.data } }))) ∧
    (s.dpt.notices.length < 16 → s.post n = s.setDpt { s.dpt with notices := s.dpt.notices ++ [n] }) ∧
    (16 ≤ s.dpt.notices.length → s.post n = s.setDpt { s.dpt with overflow := min (s.dpt.overflow + 1) 255 }) ∧
    (s.ntc = true ↔ s.dpt.notices ≠ [])) ∧
  (∀ s : State,
    let orFF := fun (n : Option Nat) => (match n with
      | some v => byteOf v
      | none => 0xFF : Byte)
    s.statusData.take 11 =
      [byteOf s.me.val, orFF (s.role.map Role.code), byteOf s.mbu.station.code, byteOf s.mbu.cause.code,
       byteOf ((s.opr.fault.map ConfigFault.code).getD 0), byteOf s.mbu.joinCount,
       byteOf ((digest s.ctu).toNat / 256), byteOf (digest s.ctu).toNat,
       byteOf (holdCount s.ctu s.me), byteOf s.dpt.notices.length, byteOf s.dpt.overflow] ∧
    (s.role = none → s.statusData.drop 11 = List.replicate 12 0xFF) ∧
    (s.role = some .carriage →
      s.statusData.drop 11 =
        [byteOf s.rte.state.code, orFF s.headNum, orFF s.rte.committedLimit,
         byteOf ((if s.mou.stop then 128 else 0) + s.mou.stopCause.code),
         orFF (s.head.map (·.val)), orFF (s.tail.map (·.val)),
         orFF (s.pos.place.map fun q => q.offset / 65536), orFF (s.pos.place.map fun q => q.offset / 256),
         orFF (s.pos.place.map fun q => q.offset),
         byteOf s.pos.badTags, orFF (s.pos.fault.map (·.cause.code)), if s.mou.keep.isSome then 1 else 0]) ∧
    (s.role = some .wayside →
      let lie := fun (i : Nat) => orFF ((s.toc.records[i]?).map fun q => lieCode q.lie)
      let motor := fun (i : Nat) => (s.toc.records[i]?).map fun q => q.motor.code
      s.statusData.drop 11 =
        [lie 0, lie 1, lie 2, lie 3, orFF (motor 0), orFF (motor 1), byteOf (16 * (motor 2).getD 15 + (motor 3).getD 15),
         0xFF, 0xFF, byteOf s.toc.queue.length, if s.toc.stagger.isSome then 1 else 0, 0xFF])) ∧
  (∀ (e : Entry) (p : Peer),
    let lie := fun (l : Option Lie) => (match l with
      | some v => byteOf (lieCode v)
      | none => 0xFF : Byte)
    (e.claim = .free → entryData e = [0, 0, 0xFF, lie e.reported, 0xFF]) ∧
    (∀ h required, e.claim = .held h required →
      entryData e = [1, byteOf h.val, byteOf (requiredCode required), lie e.reported, 0xFF]) ∧
    (∀ cause, e.claim = .blocked cause → entryData e = [2, 0, 0xFF, lie e.reported, byteOf cause.code]) ∧
    peerData p =
      [byteOf p.presence.code, (match p.role with
        | some role => byteOf role.code
        | none => 0xFF : Byte),
       byteOf (p.lease.getD 65535 / 256), byteOf (p.lease.getD 65535), if p.foreign then 1 else 0]) ∧
  (∀ n : Notice,
    let record : Nat × List Nat := match n with
      | .link state cause => (0, [state.code, cause.code])
      | .peer station presence => (1, [station.val, presence.code])
      | .mapConflict sender => (2, [sender.val])
      | .joinRetry count => (3, [count])
      | .placedWon head => (4, [0, head.val])
      | .placedLost head cause => (4, [1, head.val, cause.code])
      | .offer serial step distance => (5, [serial.toNat, step, distance])
      | .stalled step seg cause => (6, [step, seg.val, cause.code])
      | .lieLate step seg reported => (7, [step, seg.val, lieCode reported])
      | .lieRefused seg lie cause => (8, [seg.val, lieCode lie, causeCode cause])
      | .lost step seg what => (9, [step, seg.val, what.code])
      | .halted cause headStep => (10, [cause.code, headStep])
      | .arriving step seg => (11, [step, seg.val])
      | .position fault => (12, [fault.cause.code, fault.first, fault.second])
      | .tagBad count bits => (13, [count, bits.toNat])
      | .keepLapsed state => (14, [state.code])
      | .possessionWon count => (15, [0, count])
      | .possessionLost first cause => (15, [1, first.val, cause.code])
      | .possessionOver how count => (15, [how.code, count])
      | .throwing seg lie cause => (16, [seg.val, lieCode lie, causeCode cause])
      | .occupancy seg level guarded => (17, [seg.val, if level then 1 else 0, if guarded then 1 else 0])
    n.data = byteOf record.1 :: byteOf record.2.length ::
      record.2.flatMap fun v => [byteOf (v / 65536), byteOf (v / 256), byteOf v]) ∧
  [Role.carriage, .wayside].map Role.code = [0, 1] ∧
  [StationState.start, .configFault, .listen, .announce, .active, .duplicateHalt].map StationState.code = [0, 1, 2, 3, 4, 5] ∧
  [ChangeCause.none, .startDone, .config, .listenDone, .listenLimit, .announceTaken, .ownLease, .vetoRun, .rejectionLimit,
    .driveFailure, .duplicate].map ChangeCause.code = [0, 1, 2, 3, 4, 5, 6, 7, 8, 9, 10] ∧
  [RteState.unplaced, .placing, .parked, .routed, .moving, .halted].map RteState.code = [0, 1, 2, 3, 4, 5] ∧
  [StopCause.reset, .lost, .position, .keep, .relisten, .duplicate].map StopCause.code = [0, 1, 2, 3, 4, 5] ∧
  [FaultCause.wrongTag, .overrun, .unexpectedTag, .missingTag, .creep].map FaultCause.code = [0, 1, 2, 3, 4] ∧
  [LossCause.held, .blocked, .holdLimit].map LossCause.code = [0, 1, 2] ∧
  [Presence.absent, .present, .lapsing, .lapsed].map Presence.code = [0, 1, 2, 3] ∧
  [PossessionEnd.released, .blocked, .ended].map PossessionEnd.code = [2, 3, 4] ∧
  [Lost.held, .confirmed].map Lost.code = [0, 1] ∧ [Motor.off, .driveN, .driveR].map Motor.code = [0, 1, 2] ∧
  [BlockCause.lapse, .guard, .relistenLearned].map BlockCause.code = [0, 1, 2] ∧
  [Lie.unknown, .normal, .reverse, .moving, .failed].map lieCode = [0, 1, 2, 3, 4] ∧
  [none, some Points.normal, some .reverse].map requiredCode = [0, 1, 2] ∧
  [LieCause.done, .confirmed, .moving, .refusedOccupied, .timeout, .detectorConflict, .lockLost, .occupiedDuringThrow,
    .report].map causeCode = [0, 1, 2, 3, 4, 5, 6, 7, 8] ∧
  [ConfigFault.noStore, .badCrc, .badFormat, .badStation, .badQuorum, .badSpeed, .badMap, .badLengths,
    .badOwner].map ConfigFault.code = [1, 2, 3, 4, 5, 6, 7, 8, 9]

/-- R180, R187: every command's message is read back as the command, whatever bytes follow it. -/
def Obligations.CommandMessagesAreReadBack : Prop :=
  ∀ (i : Instr) (m extra : List Byte), i.wellFormed = true → messageOf i = some m → commandOf (m ++ extra) = some i

/-! ## Encodings on the line -/

/-- R63, R64: every payload within its counts is read back from its bytes, by its kind. -/
def Obligations.PayloadsAreReadBack : Prop :=
  ∀ p : Payload,
    (match p with
      | .beacon _ _ held _ lies => held.length ≤ 12 ∧ lies.length ≤ 4
      | .claim _ bundle | .reclaim _ bundle => 1 ≤ bundle.length ∧ bundle.length ≤ 6
      | .release segs | .clear segs => 1 ≤ segs.length ∧ segs.length ≤ 12
      | .guard segs => 1 ≤ segs.length ∧ segs.length ≤ 4
      | .lapse _ | .lie _ _ _ _ => True) →
    payloadOf p.kind (payloadBytes p) = some p

/-- R44: a receiver that removes the stuff bits has the bits that were sent, and meets no stuff error. A frame is followed by a stuff bit exactly where
the bits before the last one of its stuffed part are, without their stuff bits, all its bits already. -/
def Obligations.StuffingIsUndone : Prop :=
  (∀ bits : List Bool, unstuff (stuffFrom 0 true bits) = some bits) ∧
  ∀ f : Frame, stuffBitFollows f = true ↔ unstuff (frameWire f).dropLast = some (frameBits f)

/-! ## The laws that every step keeps -/

/-- The laws named here, which the statements below say every step keeps, hold right after the release of reset. -/
def Obligations.LawsHoldAtReset : Prop :=
  SpeedCapLaw State.reset ∧ NoticeLaw State.reset ∧ TracklineLaw State.reset ∧ QueueLaw State.reset ∧
    ArgsLaw State.reset ∧ HoldLaw State.reset ∧ CommittedLaw State.reset ∧ RouteLaw State.reset ∧ EngineLaw State.reset ∧
    RouteQueueLaw State.reset ∧ FlagLaw State.reset ∧ MotorLaw State.reset ∧ RecordLaw State.reset

/-- R142: the speed-cap law is kept by every step. -/
def Obligations.StepsKeepTheSpeedCapLaw : Prop := ∀ s t : State, SpeedCapLaw s → step s = .next t → SpeedCapLaw t

/-- R39, R72 to R74, R191: the bounds of the notice queue, participation only in ANNOUNCE and ACTIVE, one transmit entry of each identity,
and argument sets of their entry's kind are kept by every step. -/
def Obligations.StepsKeepTheQueueLaws : Prop :=
  ∀ s t : State, step s = .next t →
    (NoticeLaw s → NoticeLaw t) ∧ (TracklineLaw s → TracklineLaw t) ∧ (QueueLaw s → QueueLaw t) ∧ (ArgsLaw s → ArgsLaw t)

/-- R19: the hold limit of the device is kept by every step. -/
def Obligations.StepsKeepTheHoldLaw : Prop := ∀ s t : State, HoldLaw s → step s = .next t → HoldLaw t

/-- R106 to R108, R120, R121, R133, R135: the law of committed track is kept by every step, with what the engine's state says of route, flags and
STOP, and that an offer is current for just the step the offer rule asks for; the law of the route queue and the truth of every flag to the claim
table are kept beside it; and with them a CARRIAGE with STOP released has every committed step's segment shown HELD by it and every committed
turnout's reported lie equal to the required lie. -/
def Obligations.StepsKeepTheCommittedLaw : Prop :=
  (∀ s t : State, CommittedLaw s → RouteLaw s → EngineLaw s → step s = .next t →
    CommittedLaw t ∧ RouteLaw t ∧ EngineLaw t ∧ (RouteQueueLaw s → RouteQueueLaw t) ∧ (FlagLaw s → FlagLaw t)) ∧
  ∀ s : State, CommittedLaw s → FlagLaw s → s.role = some .carriage → s.mou.stop = false →
    ∀ st ∈ s.rte.route, st.committed = true →
      s.ctu[st.seg].holder = some s.me ∧ ∀ p, st.required = some p → s.ctu[st.seg].reported = some (pointsLie p)

/-- R171: the law of the point motors is kept by every step. A step that starts a motor starts one alone, with the stagger timer not running or at
its expiry, and leaves it running for the full stagger time; past START a running stagger timer is neither stopped nor cut short by anything but its
expiry and RESET. So between two steps that start a motor there is always the step that the model calls the stagger's expiry, or a RESET: that the
timer's millisecond is a step of its own, and that an expiry is accepted with any time left, are the model's choices (log entry 1). -/
def Obligations.StepsKeepTheMotorLaw : Prop :=
  (∀ s t : State, MotorLaw s → RecordLaw s → step s = .next t → MotorLaw t ∧ RecordLaw t) ∧
  (∀ (s t : State) (r : Record), MotorLaw s → RecordLaw s → step s = .next t → Started s t r →
    (s.toc.stagger = none ∨ s.pending.head? = some .staggerExpiry) ∧
      t.toc.stagger = some (100 * s.option (·.staggerCode)) ∧ ∀ q, Started s t q → q.seg = r.seg) ∧
  ∀ (s t : State) (n : Nat), s.mbu.station ≠ .start → s.toc.stagger = some n → step s = .next t →
    t.toc.stagger = some n ∨ (s.pending = [] ∧ t.toc.stagger = some (n - 1)) ∨
      s.pending.head? = some .staggerExpiry ∨ s.pending.head? = some .reset ∨ s.pending.head? = some .resetRelease
end

