-- ==== Sys2Proof/Laws/State.lean ====
section
/-! SUPPORT. What replacing one block of the state leaves in every field: one lemma per field per setter, true by rfl. -/
namespace Sys2Proof.Machine.State

@[simp] theorem setInReset_inReset (s : State) (x : Bool) : (s.setInReset x).inReset = x := rfl
@[simp] theorem setInReset_opr (s : State) (x : Bool) : (s.setInReset x).opr = s.opr := rfl
@[simp] theorem setInReset_ctu (s : State) (x : Bool) : (s.setInReset x).ctu = s.ctu := rfl
@[simp] theorem setInReset_liu (s : State) (x : Bool) : (s.setInReset x).liu = s.liu := rfl
@[simp] theorem setInReset_txq (s : State) (x : Bool) : (s.setInReset x).txq = s.txq := rfl
@[simp] theorem setInReset_mbu (s : State) (x : Bool) : (s.setInReset x).mbu = s.mbu := rfl
@[simp] theorem setInReset_rte (s : State) (x : Bool) : (s.setInReset x).rte = s.rte := rfl
@[simp] theorem setInReset_mou (s : State) (x : Bool) : (s.setInReset x).mou = s.mou := rfl
@[simp] theorem setInReset_pos (s : State) (x : Bool) : (s.setInReset x).pos = s.pos := rfl
@[simp] theorem setInReset_toc (s : State) (x : Bool) : (s.setInReset x).toc = s.toc := rfl
@[simp] theorem setInReset_dpt (s : State) (x : Bool) : (s.setInReset x).dpt = s.dpt := rfl
@[simp] theorem setInReset_pending (s : State) (x : Bool) : (s.setInReset x).pending = s.pending := rfl

@[simp] theorem setOpr_inReset (s : State) (x : Opr) : (s.setOpr x).inReset = s.inReset := rfl
@[simp] theorem setOpr_opr (s : State) (x : Opr) : (s.setOpr x).opr = x := rfl
@[simp] theorem setOpr_ctu (s : State) (x : Opr) : (s.setOpr x).ctu = s.ctu := rfl
@[simp] theorem setOpr_liu (s : State) (x : Opr) : (s.setOpr x).liu = s.liu := rfl
@[simp] theorem setOpr_txq (s : State) (x : Opr) : (s.setOpr x).txq = s.txq := rfl
@[simp] theorem setOpr_mbu (s : State) (x : Opr) : (s.setOpr x).mbu = s.mbu := rfl
@[simp] theorem setOpr_rte (s : State) (x : Opr) : (s.setOpr x).rte = s.rte := rfl
@[simp] theorem setOpr_mou (s : State) (x : Opr) : (s.setOpr x).mou = s.mou := rfl
@[simp] theorem setOpr_pos (s : State) (x : Opr) : (s.setOpr x).pos = s.pos := rfl
@[simp] theorem setOpr_toc (s : State) (x : Opr) : (s.setOpr x).toc = s.toc := rfl
@[simp] theorem setOpr_dpt (s : State) (x : Opr) : (s.setOpr x).dpt = s.dpt := rfl
@[simp] theorem setOpr_pending (s : State) (x : Opr) : (s.setOpr x).pending = s.pending := rfl

@[simp] theorem setCtu_inReset (s : State) (x : Table) : (s.setCtu x).inReset = s.inReset := rfl
@[simp] theorem setCtu_opr (s : State) (x : Table) : (s.setCtu x).opr = s.opr := rfl
@[simp] theorem setCtu_ctu (s : State) (x : Table) : (s.setCtu x).ctu = x := rfl
@[simp] theorem setCtu_liu (s : State) (x : Table) : (s.setCtu x).liu = s.liu := rfl
@[simp] theorem setCtu_txq (s : State) (x : Table) : (s.setCtu x).txq = s.txq := rfl
@[simp] theorem setCtu_mbu (s : State) (x : Table) : (s.setCtu x).mbu = s.mbu := rfl
@[simp] theorem setCtu_rte (s : State) (x : Table) : (s.setCtu x).rte = s.rte := rfl
@[simp] theorem setCtu_mou (s : State) (x : Table) : (s.setCtu x).mou = s.mou := rfl
@[simp] theorem setCtu_pos (s : State) (x : Table) : (s.setCtu x).pos = s.pos := rfl
@[simp] theorem setCtu_toc (s : State) (x : Table) : (s.setCtu x).toc = s.toc := rfl
@[simp] theorem setCtu_dpt (s : State) (x : Table) : (s.setCtu x).dpt = s.dpt := rfl
@[simp] theorem setCtu_pending (s : State) (x : Table) : (s.setCtu x).pending = s.pending := rfl

@[simp] theorem setLiu_inReset (s : State) (x : Liu) : (s.setLiu x).inReset = s.inReset := rfl
@[simp] theorem setLiu_opr (s : State) (x : Liu) : (s.setLiu x).opr = s.opr := rfl
@[simp] theorem setLiu_ctu (s : State) (x : Liu) : (s.setLiu x).ctu = s.ctu := rfl
@[simp] theorem setLiu_liu (s : State) (x : Liu) : (s.setLiu x).liu = x := rfl
@[simp] theorem setLiu_txq (s : State) (x : Liu) : (s.setLiu x).txq = s.txq := rfl
@[simp] theorem setLiu_mbu (s : State) (x : Liu) : (s.setLiu x).mbu = s.mbu := rfl
@[simp] theorem setLiu_rte (s : State) (x : Liu) : (s.setLiu x).rte = s.rte := rfl
@[simp] theorem setLiu_mou (s : State) (x : Liu) : (s.setLiu x).mou = s.mou := rfl
@[simp] theorem setLiu_pos (s : State) (x : Liu) : (s.setLiu x).pos = s.pos := rfl
@[simp] theorem setLiu_toc (s : State) (x : Liu) : (s.setLiu x).toc = s.toc := rfl
@[simp] theorem setLiu_dpt (s : State) (x : Liu) : (s.setLiu x).dpt = s.dpt := rfl
@[simp] theorem setLiu_pending (s : State) (x : Liu) : (s.setLiu x).pending = s.pending := rfl

@[simp] theorem setTxq_inReset (s : State) (x : Txq) : (s.setTxq x).inReset = s.inReset := rfl
@[simp] theorem setTxq_opr (s : State) (x : Txq) : (s.setTxq x).opr = s.opr := rfl
@[simp] theorem setTxq_ctu (s : State) (x : Txq) : (s.setTxq x).ctu = s.ctu := rfl
@[simp] theorem setTxq_liu (s : State) (x : Txq) : (s.setTxq x).liu = s.liu := rfl
@[simp] theorem setTxq_txq (s : State) (x : Txq) : (s.setTxq x).txq = x := rfl
@[simp] theorem setTxq_mbu (s : State) (x : Txq) : (s.setTxq x).mbu = s.mbu := rfl
@[simp] theorem setTxq_rte (s : State) (x : Txq) : (s.setTxq x).rte = s.rte := rfl
@[simp] theorem setTxq_mou (s : State) (x : Txq) : (s.setTxq x).mou = s.mou := rfl
@[simp] theorem setTxq_pos (s : State) (x : Txq) : (s.setTxq x).pos = s.pos := rfl
@[simp] theorem setTxq_toc (s : State) (x : Txq) : (s.setTxq x).toc = s.toc := rfl
@[simp] theorem setTxq_dpt (s : State) (x : Txq) : (s.setTxq x).dpt = s.dpt := rfl
@[simp] theorem setTxq_pending (s : State) (x : Txq) : (s.setTxq x).pending = s.pending := rfl

@[simp] theorem setMbu_inReset (s : State) (x : Mbu) : (s.setMbu x).inReset = s.inReset := rfl
@[simp] theorem setMbu_opr (s : State) (x : Mbu) : (s.setMbu x).opr = s.opr := rfl
@[simp] theorem setMbu_ctu (s : State) (x : Mbu) : (s.setMbu x).ctu = s.ctu := rfl
@[simp] theorem setMbu_liu (s : State) (x : Mbu) : (s.setMbu x).liu = s.liu := rfl
@[simp] theorem setMbu_txq (s : State) (x : Mbu) : (s.setMbu x).txq = s.txq := rfl
@[simp] theorem setMbu_mbu (s : State) (x : Mbu) : (s.setMbu x).mbu = x := rfl
@[simp] theorem setMbu_rte (s : State) (x : Mbu) : (s.setMbu x).rte = s.rte := rfl
@[simp] theorem setMbu_mou (s : State) (x : Mbu) : (s.setMbu x).mou = s.mou := rfl
@[simp] theorem setMbu_pos (s : State) (x : Mbu) : (s.setMbu x).pos = s.pos := rfl
@[simp] theorem setMbu_toc (s : State) (x : Mbu) : (s.setMbu x).toc = s.toc := rfl
@[simp] theorem setMbu_dpt (s : State) (x : Mbu) : (s.setMbu x).dpt = s.dpt := rfl
@[simp] theorem setMbu_pending (s : State) (x : Mbu) : (s.setMbu x).pending = s.pending := rfl

@[simp] theorem setRte_inReset (s : State) (x : Rte) : (s.setRte x).inReset = s.inReset := rfl
@[simp] theorem setRte_opr (s : State) (x : Rte) : (s.setRte x).opr = s.opr := rfl
@[simp] theorem setRte_ctu (s : State) (x : Rte) : (s.setRte x).ctu = s.ctu := rfl
@[simp] theorem setRte_liu (s : State) (x : Rte) : (s.setRte x).liu = s.liu := rfl
@[simp] theorem setRte_txq (s : State) (x : Rte) : (s.setRte x).txq = s.txq := rfl
@[simp] theorem setRte_mbu (s : State) (x : Rte) : (s.setRte x).mbu = s.mbu := rfl
@[simp] theorem setRte_rte (s : State) (x : Rte) : (s.setRte x).rte = x := rfl
@[simp] theorem setRte_mou (s : State) (x : Rte) : (s.setRte x).mou = s.mou := rfl
@[simp] theorem setRte_pos (s : State) (x : Rte) : (s.setRte x).pos = s.pos := rfl
@[simp] theorem setRte_toc (s : State) (x : Rte) : (s.setRte x).toc = s.toc := rfl
@[simp] theorem setRte_dpt (s : State) (x : Rte) : (s.setRte x).dpt = s.dpt := rfl
@[simp] theorem setRte_pending (s : State) (x : Rte) : (s.setRte x).pending = s.pending := rfl

@[simp] theorem setMou_inReset (s : State) (x : Mou) : (s.setMou x).inReset = s.inReset := rfl
@[simp] theorem setMou_opr (s : State) (x : Mou) : (s.setMou x).opr = s.opr := rfl
@[simp] theorem setMou_ctu (s : State) (x : Mou) : (s.setMou x).ctu = s.ctu := rfl
@[simp] theorem setMou_liu (s : State) (x : Mou) : (s.setMou x).liu = s.liu := rfl
@[simp] theorem setMou_txq (s : State) (x : Mou) : (s.setMou x).txq = s.txq := rfl
@[simp] theorem setMou_mbu (s : State) (x : Mou) : (s.setMou x).mbu = s.mbu := rfl
@[simp] theorem setMou_rte (s : State) (x : Mou) : (s.setMou x).rte = s.rte := rfl
@[simp] theorem setMou_mou (s : State) (x : Mou) : (s.setMou x).mou = x := rfl
@[simp] theorem setMou_pos (s : State) (x : Mou) : (s.setMou x).pos = s.pos := rfl
@[simp] theorem setMou_toc (s : State) (x : Mou) : (s.setMou x).toc = s.toc := rfl
@[simp] theorem setMou_dpt (s : State) (x : Mou) : (s.setMou x).dpt = s.dpt := rfl
@[simp] theorem setMou_pending (s : State) (x : Mou) : (s.setMou x).pending = s.pending := rfl

@[simp] theorem setPos_inReset (s : State) (x : Pos) : (s.setPos x).inReset = s.inReset := rfl
@[simp] theorem setPos_opr (s : State) (x : Pos) : (s.setPos x).opr = s.opr := rfl
@[simp] theorem setPos_ctu (s : State) (x : Pos) : (s.setPos x).ctu = s.ctu := rfl
@[simp] theorem setPos_liu (s : State) (x : Pos) : (s.setPos x).liu = s.liu := rfl
@[simp] theorem setPos_txq (s : State) (x : Pos) : (s.setPos x).txq = s.txq := rfl
@[simp] theorem setPos_mbu (s : State) (x : Pos) : (s.setPos x).mbu = s.mbu := rfl
@[simp] theorem setPos_rte (s : State) (x : Pos) : (s.setPos x).rte = s.rte := rfl
@[simp] theorem setPos_mou (s : State) (x : Pos) : (s.setPos x).mou = s.mou := rfl
@[simp] theorem setPos_pos (s : State) (x : Pos) : (s.setPos x).pos = x := rfl
@[simp] theorem setPos_toc (s : State) (x : Pos) : (s.setPos x).toc = s.toc := rfl
@[simp] theorem setPos_dpt (s : State) (x : Pos) : (s.setPos x).dpt = s.dpt := rfl
@[simp] theorem setPos_pending (s : State) (x : Pos) : (s.setPos x).pending = s.pending := rfl

@[simp] theorem setToc_inReset (s : State) (x : Toc) : (s.setToc x).inReset = s.inReset := rfl
@[simp] theorem setToc_opr (s : State) (x : Toc) : (s.setToc x).opr = s.opr := rfl
@[simp] theorem setToc_ctu (s : State) (x : Toc) : (s.setToc x).ctu = s.ctu := rfl
@[simp] theorem setToc_liu (s : State) (x : Toc) : (s.setToc x).liu = s.liu := rfl
@[simp] theorem setToc_txq (s : State) (x : Toc) : (s.setToc x).txq = s.txq := rfl
@[simp] theorem setToc_mbu (s : State) (x : Toc) : (s.setToc x).mbu = s.mbu := rfl
@[simp] theorem setToc_rte (s : State) (x : Toc) : (s.setToc x).rte = s.rte := rfl
@[simp] theorem setToc_mou (s : State) (x : Toc) : (s.setToc x).mou = s.mou := rfl
@[simp] theorem setToc_pos (s : State) (x : Toc) : (s.setToc x).pos = s.pos := rfl
@[simp] theorem setToc_toc (s : State) (x : Toc) : (s.setToc x).toc = x := rfl
@[simp] theorem setToc_dpt (s : State) (x : Toc) : (s.setToc x).dpt = s.dpt := rfl
@[simp] theorem setToc_pending (s : State) (x : Toc) : (s.setToc x).pending = s.pending := rfl

@[simp] theorem setDpt_inReset (s : State) (x : Dpt) : (s.setDpt x).inReset = s.inReset := rfl
@[simp] theorem setDpt_opr (s : State) (x : Dpt) : (s.setDpt x).opr = s.opr := rfl
@[simp] theorem setDpt_ctu (s : State) (x : Dpt) : (s.setDpt x).ctu = s.ctu := rfl
@[simp] theorem setDpt_liu (s : State) (x : Dpt) : (s.setDpt x).liu = s.liu := rfl
@[simp] theorem setDpt_txq (s : State) (x : Dpt) : (s.setDpt x).txq = s.txq := rfl
@[simp] theorem setDpt_mbu (s : State) (x : Dpt) : (s.setDpt x).mbu = s.mbu := rfl
@[simp] theorem setDpt_rte (s : State) (x : Dpt) : (s.setDpt x).rte = s.rte := rfl
@[simp] theorem setDpt_mou (s : State) (x : Dpt) : (s.setDpt x).mou = s.mou := rfl
@[simp] theorem setDpt_pos (s : State) (x : Dpt) : (s.setDpt x).pos = s.pos := rfl
@[simp] theorem setDpt_toc (s : State) (x : Dpt) : (s.setDpt x).toc = s.toc := rfl
@[simp] theorem setDpt_dpt (s : State) (x : Dpt) : (s.setDpt x).dpt = x := rfl
@[simp] theorem setDpt_pending (s : State) (x : Dpt) : (s.setDpt x).pending = s.pending := rfl

@[simp] theorem setPending_inReset (s : State) (x : List Instr) : (s.setPending x).inReset = s.inReset := rfl
@[simp] theorem setPending_opr (s : State) (x : List Instr) : (s.setPending x).opr = s.opr := rfl
@[simp] theorem setPending_ctu (s : State) (x : List Instr) : (s.setPending x).ctu = s.ctu := rfl
@[simp] theorem setPending_liu (s : State) (x : List Instr) : (s.setPending x).liu = s.liu := rfl
@[simp] theorem setPending_txq (s : State) (x : List Instr) : (s.setPending x).txq = s.txq := rfl
@[simp] theorem setPending_mbu (s : State) (x : List Instr) : (s.setPending x).mbu = s.mbu := rfl
@[simp] theorem setPending_rte (s : State) (x : List Instr) : (s.setPending x).rte = s.rte := rfl
@[simp] theorem setPending_mou (s : State) (x : List Instr) : (s.setPending x).mou = s.mou := rfl
@[simp] theorem setPending_pos (s : State) (x : List Instr) : (s.setPending x).pos = s.pos := rfl
@[simp] theorem setPending_toc (s : State) (x : List Instr) : (s.setPending x).toc = s.toc := rfl
@[simp] theorem setPending_dpt (s : State) (x : List Instr) : (s.setPending x).dpt = s.dpt := rfl
@[simp] theorem setPending_pending (s : State) (x : List Instr) : (s.setPending x).pending = x := rfl

@[simp] theorem setInReset_setInReset (s : State) (x y : Bool) : (s.setInReset x).setInReset y = s.setInReset y := rfl
@[simp] theorem setOpr_setOpr (s : State) (x y : Opr) : (s.setOpr x).setOpr y = s.setOpr y := rfl
@[simp] theorem setCtu_setCtu (s : State) (x y : Table) : (s.setCtu x).setCtu y = s.setCtu y := rfl
@[simp] theorem setLiu_setLiu (s : State) (x y : Liu) : (s.setLiu x).setLiu y = s.setLiu y := rfl
@[simp] theorem setTxq_setTxq (s : State) (x y : Txq) : (s.setTxq x).setTxq y = s.setTxq y := rfl
@[simp] theorem setMbu_setMbu (s : State) (x y : Mbu) : (s.setMbu x).setMbu y = s.setMbu y := rfl
@[simp] theorem setRte_setRte (s : State) (x y : Rte) : (s.setRte x).setRte y = s.setRte y := rfl
@[simp] theorem setMou_setMou (s : State) (x y : Mou) : (s.setMou x).setMou y = s.setMou y := rfl
@[simp] theorem setPos_setPos (s : State) (x y : Pos) : (s.setPos x).setPos y = s.setPos y := rfl
@[simp] theorem setToc_setToc (s : State) (x y : Toc) : (s.setToc x).setToc y = s.setToc y := rfl
@[simp] theorem setDpt_setDpt (s : State) (x y : Dpt) : (s.setDpt x).setDpt y = s.setDpt y := rfl
@[simp] theorem setPending_setPending (s : State) (x y : List Instr) : (s.setPending x).setPending y = s.setPending y := rfl

end Sys2Proof.Machine.State
end

