-- ==== Sys2Proof/Laws/OpsFrames.lean ====
section
/-! SUPPORT. Which blocks each operation of Machine/Ops.lean leaves as they are; later proofs cite these lemmas and do not unfold the operation. -/
namespace Sys2Proof.Machine

open Sys2Proof

set_option linter.unusedTactic false
set_option linter.unreachableTactic false

/-- A fold keeps what every one of its steps keeps. -/
theorem foldl_keeps {α β γ : Type} (g : α → γ) (f : α → β → α) (h : ∀ a b, g (f a b) = g a) (l : List β) (a : α) :
    g (l.foldl f a) = g a := by
  induction l generalizing a with
  | nil => rfl
  | cons b rest ih => rw [List.foldl_cons, ih, h]

/-- `State.post` changes at most dpt. -/
@[simp] theorem State.post_frame (s : State) (n : Notice) :
    (s.post n).inReset = s.inReset ∧ (s.post n).opr = s.opr ∧ (s.post n).ctu = s.ctu ∧ (s.post n).liu = s.liu ∧
    (s.post n).txq = s.txq ∧ (s.post n).mbu = s.mbu ∧ (s.post n).rte = s.rte ∧ (s.post n).mou = s.mou ∧
    (s.post n).pos = s.pos ∧ (s.post n).toc = s.toc ∧ (s.post n).pending = s.pending := by
  unfold State.post
  try dsimp only
  repeat' split
  all_goals simp

/-- `State.postIf` changes at most dpt. -/
@[simp] theorem State.postIf_frame (s : State) (b : Bool) (n : Notice) :
    (s.postIf b n).inReset = s.inReset ∧ (s.postIf b n).opr = s.opr ∧ (s.postIf b n).ctu = s.ctu ∧
    (s.postIf b n).liu = s.liu ∧ (s.postIf b n).txq = s.txq ∧ (s.postIf b n).mbu = s.mbu ∧
    (s.postIf b n).rte = s.rte ∧ (s.postIf b n).mou = s.mou ∧ (s.postIf b n).pos = s.pos ∧
    (s.postIf b n).toc = s.toc ∧ (s.postIf b n).pending = s.pending := by
  unfold State.postIf
  try dsimp only
  repeat' split
  all_goals simp

/-- `State.txRequest` changes at most txq. -/
@[simp] theorem State.txRequest_frame (s : State) (key : EntryKey) (args : Args) :
    (s.txRequest key args).inReset = s.inReset ∧ (s.txRequest key args).opr = s.opr ∧
    (s.txRequest key args).ctu = s.ctu ∧ (s.txRequest key args).liu = s.liu ∧ (s.txRequest key args).mbu = s.mbu ∧
    (s.txRequest key args).rte = s.rte ∧ (s.txRequest key args).mou = s.mou ∧ (s.txRequest key args).pos = s.pos ∧
    (s.txRequest key args).toc = s.toc ∧ (s.txRequest key args).dpt = s.dpt ∧
    (s.txRequest key args).pending = s.pending := by
  unfold State.txRequest
  try dsimp only
  repeat' split
  all_goals simp

/-- `State.requestRelease` changes at most txq. -/
@[simp] theorem State.requestRelease_frame (s : State) (segs : List Seg) :
    (s.requestRelease segs).inReset = s.inReset ∧ (s.requestRelease segs).opr = s.opr ∧
    (s.requestRelease segs).ctu = s.ctu ∧ (s.requestRelease segs).liu = s.liu ∧ (s.requestRelease segs).mbu = s.mbu ∧
    (s.requestRelease segs).rte = s.rte ∧ (s.requestRelease segs).mou = s.mou ∧ (s.requestRelease segs).pos = s.pos ∧
    (s.requestRelease segs).toc = s.toc ∧ (s.requestRelease segs).dpt = s.dpt ∧
    (s.requestRelease segs).pending = s.pending := by
  unfold State.requestRelease
  try dsimp only
  repeat' split
  all_goals simp

/-- `State.assertStop` changes at most mou. -/
@[simp] theorem State.assertStop_frame (s : State) (cause : StopCause) :
    (s.assertStop cause).inReset = s.inReset ∧ (s.assertStop cause).opr = s.opr ∧ (s.assertStop cause).ctu = s.ctu ∧
    (s.assertStop cause).liu = s.liu ∧ (s.assertStop cause).txq = s.txq ∧ (s.assertStop cause).mbu = s.mbu ∧
    (s.assertStop cause).rte = s.rte ∧ (s.assertStop cause).pos = s.pos ∧ (s.assertStop cause).toc = s.toc ∧
    (s.assertStop cause).dpt = s.dpt ∧ (s.assertStop cause).pending = s.pending := by
  unfold State.assertStop
  try dsimp only
  repeat' split
  all_goals simp

/-- `State.refreshDuty` changes at most mou. -/
@[simp] theorem State.refreshDuty_frame (s : State) :
    s.refreshDuty.inReset = s.inReset ∧ s.refreshDuty.opr = s.opr ∧ s.refreshDuty.ctu = s.ctu ∧
    s.refreshDuty.liu = s.liu ∧ s.refreshDuty.txq = s.txq ∧ s.refreshDuty.mbu = s.mbu ∧ s.refreshDuty.rte = s.rte ∧
    s.refreshDuty.pos = s.pos ∧ s.refreshDuty.toc = s.toc ∧ s.refreshDuty.dpt = s.dpt ∧
    s.refreshDuty.pending = s.pending := by
  unfold State.refreshDuty
  try dsimp only
  repeat' split
  all_goals simp

/-- `State.setEngine` changes at most rte, pos, mou. -/
@[simp] theorem State.setEngine_frame (s : State) (state : RteState) :
    (s.setEngine state).inReset = s.inReset ∧ (s.setEngine state).opr = s.opr ∧ (s.setEngine state).ctu = s.ctu ∧
    (s.setEngine state).liu = s.liu ∧ (s.setEngine state).txq = s.txq ∧ (s.setEngine state).mbu = s.mbu ∧
    (s.setEngine state).toc = s.toc ∧ (s.setEngine state).dpt = s.dpt ∧ (s.setEngine state).pending = s.pending := by
  unfold State.setEngine
  try dsimp only
  repeat' split
  all_goals simp

end Sys2Proof.Machine
end

