-- ==== Sys2Proof/Laws/RouteFrames.lean ====
section
/-! SUPPORT. Which blocks each operation of Machine/Route.lean leaves as they are; later proofs cite these lemmas and do not unfold the operation. -/
namespace Sys2Proof.Machine

open Sys2Proof

set_option linter.unusedTactic false
set_option linter.unreachableTactic false

/-- `State.halt` changes at most rte, pos, mou, dpt. -/
@[simp] theorem State.halt_frame (s : State) (cause : StopCause) :
    (s.halt cause).inReset = s.inReset ∧ (s.halt cause).opr = s.opr ∧ (s.halt cause).ctu = s.ctu ∧
    (s.halt cause).liu = s.liu ∧ (s.halt cause).txq = s.txq ∧ (s.halt cause).mbu = s.mbu ∧
    (s.halt cause).toc = s.toc ∧ (s.halt cause).pending = s.pending := by
  unfold State.halt
  try dsimp only
  repeat' split
  all_goals simp

/-- `State.refreshOffer` changes at most rte, dpt. -/
@[simp] theorem State.refreshOffer_frame (s : State) :
    s.refreshOffer.inReset = s.inReset ∧ s.refreshOffer.opr = s.opr ∧ s.refreshOffer.ctu = s.ctu ∧
    s.refreshOffer.liu = s.liu ∧ s.refreshOffer.txq = s.txq ∧ s.refreshOffer.mbu = s.mbu ∧
    s.refreshOffer.mou = s.mou ∧ s.refreshOffer.pos = s.pos ∧ s.refreshOffer.toc = s.toc ∧
    s.refreshOffer.pending = s.pending := by
  unfold State.refreshOffer
  try dsimp only
  repeat' split
  all_goals simp

/-- `State.clearRoute` changes at most rte. -/
@[simp] theorem State.clearRoute_frame (s : State) :
    s.clearRoute.inReset = s.inReset ∧ s.clearRoute.opr = s.opr ∧ s.clearRoute.ctu = s.ctu ∧
    s.clearRoute.liu = s.liu ∧ s.clearRoute.txq = s.txq ∧ s.clearRoute.mbu = s.mbu ∧ s.clearRoute.mou = s.mou ∧
    s.clearRoute.pos = s.pos ∧ s.clearRoute.toc = s.toc ∧ s.clearRoute.dpt = s.dpt ∧
    s.clearRoute.pending = s.pending := by
  unfold State.clearRoute
  try dsimp only
  repeat' split
  all_goals simp

/-- `State.withdrawClaim` changes at most txq, rte. -/
@[simp] theorem State.withdrawClaim_frame (s : State) :
    s.withdrawClaim.inReset = s.inReset ∧ s.withdrawClaim.opr = s.opr ∧ s.withdrawClaim.ctu = s.ctu ∧
    s.withdrawClaim.liu = s.liu ∧ s.withdrawClaim.mbu = s.mbu ∧ s.withdrawClaim.mou = s.mou ∧
    s.withdrawClaim.pos = s.pos ∧ s.withdrawClaim.toc = s.toc ∧ s.withdrawClaim.dpt = s.dpt ∧
    s.withdrawClaim.pending = s.pending := by
  unfold State.withdrawClaim
  try dsimp only
  repeat' split
  all_goals simp

/-- `State.queueClaim` changes at most txq, rte. -/
@[simp] theorem State.queueClaim_frame (s : State) (front : PlanItem) (rest : List PlanItem) :
    (s.queueClaim front rest).inReset = s.inReset ∧ (s.queueClaim front rest).opr = s.opr ∧
    (s.queueClaim front rest).ctu = s.ctu ∧ (s.queueClaim front rest).liu = s.liu ∧
    (s.queueClaim front rest).mbu = s.mbu ∧ (s.queueClaim front rest).mou = s.mou ∧
    (s.queueClaim front rest).pos = s.pos ∧ (s.queueClaim front rest).toc = s.toc ∧
    (s.queueClaim front rest).dpt = s.dpt ∧ (s.queueClaim front rest).pending = s.pending := by
  unfold State.queueClaim
  try dsimp only
  repeat' split
  all_goals simp

/-- `State.placementWon` changes at most rte, pos, mou, dpt. -/
@[simp] theorem State.placementWon_frame (s : State) :
    s.placementWon.inReset = s.inReset ∧ s.placementWon.opr = s.opr ∧ s.placementWon.ctu = s.ctu ∧
    s.placementWon.liu = s.liu ∧ s.placementWon.txq = s.txq ∧ s.placementWon.mbu = s.mbu ∧
    s.placementWon.toc = s.toc ∧ s.placementWon.pending = s.pending := by
  unfold State.placementWon
  try dsimp only
  repeat' split
  all_goals simp

/-- `State.plan` changes at most txq, rte, pos, mou, dpt. -/
@[simp] theorem State.plan_frame (s : State) :
    s.plan.inReset = s.inReset ∧ s.plan.opr = s.opr ∧ s.plan.ctu = s.ctu ∧ s.plan.liu = s.liu ∧ s.plan.mbu = s.mbu ∧
    s.plan.toc = s.toc ∧ s.plan.pending = s.pending := by
  unfold State.plan
  try dsimp only
  repeat' split
  all_goals simp

/-- `State.refresh` changes at most rte, mou, dpt. -/
@[simp] theorem State.refresh_frame (s : State) :
    s.refresh.inReset = s.inReset ∧ s.refresh.opr = s.opr ∧ s.refresh.ctu = s.ctu ∧ s.refresh.liu = s.liu ∧
    s.refresh.txq = s.txq ∧ s.refresh.mbu = s.mbu ∧ s.refresh.pos = s.pos ∧ s.refresh.toc = s.toc ∧
    s.refresh.pending = s.pending := by
  unfold State.refresh
  try dsimp only
  repeat' split
  all_goals simp

/-- `State.settle` changes at most txq, rte, pos, mou, dpt. -/
@[simp] theorem State.settle_frame (s : State) :
    s.settle.inReset = s.inReset ∧ s.settle.opr = s.opr ∧ s.settle.ctu = s.ctu ∧ s.settle.liu = s.liu ∧
    s.settle.mbu = s.mbu ∧ s.settle.toc = s.toc ∧ s.settle.pending = s.pending := by
  unfold State.settle
  try dsimp only
  repeat' split
  all_goals simp

/-- `State.loseCommitted` changes at most rte, pos, mou, dpt. -/
@[simp] theorem State.loseCommitted_frame (s : State) (before : List Step) :
    (s.loseCommitted before).inReset = s.inReset ∧ (s.loseCommitted before).opr = s.opr ∧
    (s.loseCommitted before).ctu = s.ctu ∧ (s.loseCommitted before).liu = s.liu ∧
    (s.loseCommitted before).txq = s.txq ∧ (s.loseCommitted before).mbu = s.mbu ∧
    (s.loseCommitted before).toc = s.toc ∧ (s.loseCommitted before).pending = s.pending := by
  unfold State.loseCommitted
  try dsimp only
  repeat' split
  all_goals simp

/-- `State.placementLost` changes at most txq, rte, pos, mou, dpt. -/
@[simp] theorem State.placementLost_frame (s : State) (cause : LossCause) :
    (s.placementLost cause).inReset = s.inReset ∧ (s.placementLost cause).opr = s.opr ∧
    (s.placementLost cause).ctu = s.ctu ∧ (s.placementLost cause).liu = s.liu ∧ (s.placementLost cause).mbu = s.mbu ∧
    (s.placementLost cause).toc = s.toc ∧ (s.placementLost cause).pending = s.pending := by
  unfold State.placementLost
  try dsimp only
  repeat' split
  all_goals simp

/-- `State.countLoss` changes at most rte, dpt. -/
@[simp] theorem State.countLoss_frame (s : State) (o : Outstanding) (cause : LossCause) :
    (s.countLoss o cause).inReset = s.inReset ∧ (s.countLoss o cause).opr = s.opr ∧
    (s.countLoss o cause).ctu = s.ctu ∧ (s.countLoss o cause).liu = s.liu ∧ (s.countLoss o cause).txq = s.txq ∧
    (s.countLoss o cause).mbu = s.mbu ∧ (s.countLoss o cause).mou = s.mou ∧ (s.countLoss o cause).pos = s.pos ∧
    (s.countLoss o cause).toc = s.toc ∧ (s.countLoss o cause).pending = s.pending := by
  unfold State.countLoss
  try dsimp only
  repeat' split
  all_goals simp

/-- `State.claimWon` changes at most txq, rte, pos, mou, dpt. -/
@[simp] theorem State.claimWon_frame (s : State) (o : Outstanding) :
    (s.claimWon o).inReset = s.inReset ∧ (s.claimWon o).opr = s.opr ∧ (s.claimWon o).ctu = s.ctu ∧
    (s.claimWon o).liu = s.liu ∧ (s.claimWon o).mbu = s.mbu ∧ (s.claimWon o).toc = s.toc ∧
    (s.claimWon o).pending = s.pending := by
  unfold State.claimWon
  try dsimp only
  repeat' split
  all_goals simp

/-- `State.claimLost` changes at most txq, rte, pos, mou, dpt. -/
@[simp] theorem State.claimLost_frame (s : State) (o : Outstanding) (cause : LossCause) :
    (s.claimLost o cause).inReset = s.inReset ∧ (s.claimLost o cause).opr = s.opr ∧
    (s.claimLost o cause).ctu = s.ctu ∧ (s.claimLost o cause).liu = s.liu ∧ (s.claimLost o cause).mbu = s.mbu ∧
    (s.claimLost o cause).toc = s.toc ∧ (s.claimLost o cause).pending = s.pending := by
  unfold State.claimLost
  try dsimp only
  repeat' split
  all_goals simp

/-- `State.claimOutcome` changes at most txq, rte, pos, mou, dpt. -/
@[simp] theorem State.claimOutcome_frame (s : State) (told : Option ClaimTold) (outcome : Option ClaimOutcome) :
    (s.claimOutcome told outcome).inReset = s.inReset ∧ (s.claimOutcome told outcome).opr = s.opr ∧
    (s.claimOutcome told outcome).ctu = s.ctu ∧ (s.claimOutcome told outcome).liu = s.liu ∧
    (s.claimOutcome told outcome).mbu = s.mbu ∧ (s.claimOutcome told outcome).toc = s.toc ∧
    (s.claimOutcome told outcome).pending = s.pending := by
  unfold State.claimOutcome
  try dsimp only
  repeat' split
  all_goals simp

/-- `State.routeReport` changes at most txq, rte, pos, mou, dpt. -/
@[simp] theorem State.routeReport_frame (s : State) (r : Report) (told : Option ClaimTold) :
    (s.routeReport r told).inReset = s.inReset ∧ (s.routeReport r told).opr = s.opr ∧
    (s.routeReport r told).ctu = s.ctu ∧ (s.routeReport r told).liu = s.liu ∧ (s.routeReport r told).mbu = s.mbu ∧
    (s.routeReport r told).toc = s.toc ∧ (s.routeReport r told).pending = s.pending := by
  unfold State.routeReport
  try dsimp only
  repeat' split
  all_goals simp

/-- `State.routeTold` changes at most txq, rte, pos, mou, dpt. -/
@[simp] theorem State.routeTold_frame (s : State) (told : Option ClaimTold) :
    (s.routeTold told).inReset = s.inReset ∧ (s.routeTold told).opr = s.opr ∧ (s.routeTold told).ctu = s.ctu ∧
    (s.routeTold told).liu = s.liu ∧ (s.routeTold told).mbu = s.mbu ∧ (s.routeTold told).toc = s.toc ∧
    (s.routeTold told).pending = s.pending := by
  unfold State.routeTold
  try dsimp only
  repeat' split
  all_goals simp

/-- `State.routeRelisten` changes at most rte, pos, mou, dpt. -/
@[simp] theorem State.routeRelisten_frame (s : State) :
    s.routeRelisten.inReset = s.inReset ∧ s.routeRelisten.opr = s.opr ∧ s.routeRelisten.ctu = s.ctu ∧
    s.routeRelisten.liu = s.liu ∧ s.routeRelisten.txq = s.txq ∧ s.routeRelisten.mbu = s.mbu ∧
    s.routeRelisten.toc = s.toc ∧ s.routeRelisten.pending = s.pending := by
  unfold State.routeRelisten
  try dsimp only
  repeat' split
  all_goals simp

/-- `State.routeReturn` changes at most txq, rte, pos, mou, dpt. -/
@[simp] theorem State.routeReturn_frame (s : State) :
    s.routeReturn.inReset = s.inReset ∧ s.routeReturn.opr = s.opr ∧ s.routeReturn.ctu = s.ctu ∧
    s.routeReturn.liu = s.liu ∧ s.routeReturn.mbu = s.mbu ∧ s.routeReturn.toc = s.toc ∧
    s.routeReturn.pending = s.pending := by
  unfold State.routeReturn
  try dsimp only
  repeat' split
  all_goals simp

/-- `State.routeFreeze` changes at most rte, pos, mou, dpt. -/
@[simp] theorem State.routeFreeze_frame (s : State) :
    s.routeFreeze.inReset = s.inReset ∧ s.routeFreeze.opr = s.opr ∧ s.routeFreeze.ctu = s.ctu ∧
    s.routeFreeze.liu = s.liu ∧ s.routeFreeze.txq = s.txq ∧ s.routeFreeze.mbu = s.mbu ∧ s.routeFreeze.toc = s.toc ∧
    s.routeFreeze.pending = s.pending := by
  unfold State.routeFreeze
  try dsimp only
  repeat' split
  all_goals simp

end Sys2Proof.Machine
end

