-- ==== Sys2Proof/Laws/PositionFrames.lean ====
section
/-! SUPPORT. Which blocks each operation of Machine/Position.lean leaves as they are; later proofs cite these lemmas and do not unfold the operation. -/
namespace Sys2Proof.Machine

open Sys2Proof

set_option linter.unusedTactic false
set_option linter.unreachableTactic false

/-- `State.raiseFault` changes at most rte, mou, pos, dpt. -/
@[simp] theorem State.raiseFault_frame (s : State) (f : PosFault) :
    (s.raiseFault f).inReset = s.inReset ∧ (s.raiseFault f).opr = s.opr ∧ (s.raiseFault f).ctu = s.ctu ∧
    (s.raiseFault f).liu = s.liu ∧ (s.raiseFault f).txq = s.txq ∧ (s.raiseFault f).mbu = s.mbu ∧
    (s.raiseFault f).toc = s.toc ∧ (s.raiseFault f).pending = s.pending := by
  unfold State.raiseFault
  try dsimp only
  repeat' split
  all_goals simp

/-- `State.dropTailStep` changes at most rte, txq. -/
@[simp] theorem State.dropTailStep_frame (s : State) :
    s.dropTailStep.inReset = s.inReset ∧ s.dropTailStep.opr = s.opr ∧ s.dropTailStep.ctu = s.ctu ∧
    s.dropTailStep.liu = s.liu ∧ s.dropTailStep.mbu = s.mbu ∧ s.dropTailStep.mou = s.mou ∧
    s.dropTailStep.pos = s.pos ∧ s.dropTailStep.toc = s.toc ∧ s.dropTailStep.dpt = s.dpt ∧
    s.dropTailStep.pending = s.pending := by
  unfold State.dropTailStep
  try dsimp only
  repeat' split
  all_goals simp

/-- `State.releaseTail` changes at most txq, rte, pos, mou, dpt. -/
@[simp] theorem State.releaseTail_frame (s : State) :
    s.releaseTail.inReset = s.inReset ∧ s.releaseTail.opr = s.opr ∧ s.releaseTail.ctu = s.ctu ∧
    s.releaseTail.liu = s.liu ∧ s.releaseTail.mbu = s.mbu ∧ s.releaseTail.toc = s.toc ∧
    s.releaseTail.pending = s.pending := by
  unfold State.releaseTail
  try dsimp only
  repeat' split
  all_goals simp

/-- `State.creepCount` changes at most rte, mou, pos, dpt. -/
@[simp] theorem State.creepCount_frame (s : State) :
    s.creepCount.inReset = s.inReset ∧ s.creepCount.opr = s.opr ∧ s.creepCount.ctu = s.ctu ∧
    s.creepCount.liu = s.liu ∧ s.creepCount.txq = s.txq ∧ s.creepCount.mbu = s.mbu ∧ s.creepCount.toc = s.toc ∧
    s.creepCount.pending = s.pending := by
  unfold State.creepCount
  try dsimp only
  repeat' split
  all_goals simp

/-- `State.countTests` changes at most rte, mou, pos, dpt. -/
@[simp] theorem State.countTests_frame (s : State) :
    s.countTests.inReset = s.inReset ∧ s.countTests.opr = s.opr ∧ s.countTests.ctu = s.ctu ∧
    s.countTests.liu = s.liu ∧ s.countTests.txq = s.txq ∧ s.countTests.mbu = s.mbu ∧ s.countTests.toc = s.toc ∧
    s.countTests.pending = s.pending := by
  unfold State.countTests
  try dsimp only
  repeat' split
  all_goals simp

/-- `State.count` changes at most txq, rte, pos, mou, dpt. -/
@[simp] theorem State.count_frame (s : State) :
    s.count.inReset = s.inReset ∧ s.count.opr = s.opr ∧ s.count.ctu = s.ctu ∧ s.count.liu = s.liu ∧
    s.count.mbu = s.mbu ∧ s.count.toc = s.toc ∧ s.count.pending = s.pending := by
  unfold State.count
  try dsimp only
  repeat' split
  all_goals simp

/-- `State.odometerRise` changes at most txq, rte, pos, mou, dpt. -/
@[simp] theorem State.odometerRise_frame (s : State) :
    s.odometerRise.inReset = s.inReset ∧ s.odometerRise.opr = s.opr ∧ s.odometerRise.ctu = s.ctu ∧
    s.odometerRise.liu = s.liu ∧ s.odometerRise.mbu = s.mbu ∧ s.odometerRise.toc = s.toc ∧
    s.odometerRise.pending = s.pending := by
  unfold State.odometerRise
  try dsimp only
  repeat' split
  all_goals simp

/-- `State.odometerFall` changes at most pos. -/
@[simp] theorem State.odometerFall_frame (s : State) :
    s.odometerFall.inReset = s.inReset ∧ s.odometerFall.opr = s.opr ∧ s.odometerFall.ctu = s.ctu ∧
    s.odometerFall.liu = s.liu ∧ s.odometerFall.txq = s.txq ∧ s.odometerFall.mbu = s.mbu ∧
    s.odometerFall.rte = s.rte ∧ s.odometerFall.mou = s.mou ∧ s.odometerFall.toc = s.toc ∧
    s.odometerFall.dpt = s.dpt ∧ s.odometerFall.pending = s.pending := by
  unfold State.odometerFall
  try dsimp only
  repeat' split
  all_goals simp

/-- `State.advance` changes at most txq, rte, pos, mou, dpt. -/
@[simp] theorem State.advance_frame (s : State) (next : Step) :
    (s.advance next).inReset = s.inReset ∧ (s.advance next).opr = s.opr ∧ (s.advance next).ctu = s.ctu ∧
    (s.advance next).liu = s.liu ∧ (s.advance next).mbu = s.mbu ∧ (s.advance next).toc = s.toc ∧
    (s.advance next).pending = s.pending := by
  unfold State.advance
  try dsimp only
  repeat' split
  all_goals simp

/-- `State.goodTag` changes at most txq, rte, pos, mou, dpt. -/
@[simp] theorem State.goodTag_frame (s : State) (p : Placement) (tag : Seg × Seg) :
    (s.goodTag p tag).inReset = s.inReset ∧ (s.goodTag p tag).opr = s.opr ∧ (s.goodTag p tag).ctu = s.ctu ∧
    (s.goodTag p tag).liu = s.liu ∧ (s.goodTag p tag).mbu = s.mbu ∧ (s.goodTag p tag).toc = s.toc ∧
    (s.goodTag p tag).pending = s.pending := by
  unfold State.goodTag
  try dsimp only
  repeat' split
  all_goals simp

/-- `State.badTag` changes at most pos, dpt. -/
@[simp] theorem State.badTag_frame (s : State) (bits : BitVec 16) :
    (s.badTag bits).inReset = s.inReset ∧ (s.badTag bits).opr = s.opr ∧ (s.badTag bits).ctu = s.ctu ∧
    (s.badTag bits).liu = s.liu ∧ (s.badTag bits).txq = s.txq ∧ (s.badTag bits).mbu = s.mbu ∧
    (s.badTag bits).rte = s.rte ∧ (s.badTag bits).mou = s.mou ∧ (s.badTag bits).toc = s.toc ∧
    (s.badTag bits).pending = s.pending := by
  unfold State.badTag
  try dsimp only
  repeat' split
  all_goals simp

/-- `State.tagRead` changes at most txq, rte, pos, mou, dpt. -/
@[simp] theorem State.tagRead_frame (s : State) (start : Bool) (bits : BitVec 16) (stop : Bool) :
    (s.tagRead start bits stop).inReset = s.inReset ∧ (s.tagRead start bits stop).opr = s.opr ∧
    (s.tagRead start bits stop).ctu = s.ctu ∧ (s.tagRead start bits stop).liu = s.liu ∧
    (s.tagRead start bits stop).mbu = s.mbu ∧ (s.tagRead start bits stop).toc = s.toc ∧
    (s.tagRead start bits stop).pending = s.pending := by
  unfold State.tagRead
  try dsimp only
  repeat' split
  all_goals simp

end Sys2Proof.Machine
end

