-- ==== Sys2Proof/Laws/TurnoutFrames.lean ====
section
/-! SUPPORT. Which blocks each operation of Machine/Turnout.lean leaves as they are; later proofs cite these lemmas and do not unfold the operation. -/
namespace Sys2Proof.Machine

open Sys2Proof

set_option linter.unusedTactic false
set_option linter.unreachableTactic false

/-- `State.modifyRecord` changes at most toc. -/
@[simp] theorem State.modifyRecord_frame (s : State) (seg : Seg) (f : Record → Record) :
    (s.modifyRecord seg f).inReset = s.inReset ∧ (s.modifyRecord seg f).opr = s.opr ∧
    (s.modifyRecord seg f).ctu = s.ctu ∧ (s.modifyRecord seg f).liu = s.liu ∧ (s.modifyRecord seg f).txq = s.txq ∧
    (s.modifyRecord seg f).mbu = s.mbu ∧ (s.modifyRecord seg f).rte = s.rte ∧ (s.modifyRecord seg f).mou = s.mou ∧
    (s.modifyRecord seg f).pos = s.pos ∧ (s.modifyRecord seg f).dpt = s.dpt ∧
    (s.modifyRecord seg f).pending = s.pending := by
  unfold State.modifyRecord
  try dsimp only
  repeat' split
  all_goals simp

/-- `State.requestLie` changes at most txq. -/
@[simp] theorem State.requestLie_frame (s : State) (seg : Seg) (cause : LieCause) (answer : Option Answer) :
    (s.requestLie seg cause answer).inReset = s.inReset ∧ (s.requestLie seg cause answer).opr = s.opr ∧
    (s.requestLie seg cause answer).ctu = s.ctu ∧ (s.requestLie seg cause answer).liu = s.liu ∧
    (s.requestLie seg cause answer).mbu = s.mbu ∧ (s.requestLie seg cause answer).rte = s.rte ∧
    (s.requestLie seg cause answer).mou = s.mou ∧ (s.requestLie seg cause answer).pos = s.pos ∧
    (s.requestLie seg cause answer).toc = s.toc ∧ (s.requestLie seg cause answer).dpt = s.dpt ∧
    (s.requestLie seg cause answer).pending = s.pending := by
  unfold State.requestLie
  try dsimp only
  repeat' split
  all_goals simp

/-- `State.setLie` changes at most toc, dpt. -/
@[simp] theorem State.setLie_frame (s : State) (seg : Seg) (lie : Lie) (cause : LieCause) :
    (s.setLie seg lie cause).inReset = s.inReset ∧ (s.setLie seg lie cause).opr = s.opr ∧
    (s.setLie seg lie cause).ctu = s.ctu ∧ (s.setLie seg lie cause).liu = s.liu ∧
    (s.setLie seg lie cause).txq = s.txq ∧ (s.setLie seg lie cause).mbu = s.mbu ∧
    (s.setLie seg lie cause).rte = s.rte ∧ (s.setLie seg lie cause).mou = s.mou ∧
    (s.setLie seg lie cause).pos = s.pos ∧ (s.setLie seg lie cause).pending = s.pending := by
  unfold State.setLie
  try dsimp only
  repeat' split
  all_goals simp

/-- `State.reportLie` changes at most toc, dpt, txq. -/
@[simp] theorem State.reportLie_frame (s : State) (seg : Seg) (lie : Lie) (cause : LieCause) (answer : Option Answer) :
    (s.reportLie seg lie cause answer).inReset = s.inReset ∧ (s.reportLie seg lie cause answer).opr = s.opr ∧
    (s.reportLie seg lie cause answer).ctu = s.ctu ∧ (s.reportLie seg lie cause answer).liu = s.liu ∧
    (s.reportLie seg lie cause answer).mbu = s.mbu ∧ (s.reportLie seg lie cause answer).rte = s.rte ∧
    (s.reportLie seg lie cause answer).mou = s.mou ∧ (s.reportLie seg lie cause answer).pos = s.pos ∧
    (s.reportLie seg lie cause answer).pending = s.pending := by
  unfold State.reportLie
  try dsimp only
  repeat' split
  all_goals simp

/-- `State.stopThrow` changes at most toc, dpt, txq. -/
@[simp] theorem State.stopThrow_frame (s : State) (r : Record) (lie : Lie) (cause : LieCause) :
    (s.stopThrow r lie cause).inReset = s.inReset ∧ (s.stopThrow r lie cause).opr = s.opr ∧
    (s.stopThrow r lie cause).ctu = s.ctu ∧ (s.stopThrow r lie cause).liu = s.liu ∧
    (s.stopThrow r lie cause).mbu = s.mbu ∧ (s.stopThrow r lie cause).rte = s.rte ∧
    (s.stopThrow r lie cause).mou = s.mou ∧ (s.stopThrow r lie cause).pos = s.pos ∧
    (s.stopThrow r lie cause).pending = s.pending := by
  unfold State.stopThrow
  try dsimp only
  repeat' split
  all_goals simp

/-- `State.startMotor` changes at most toc, dpt, txq. -/
@[simp] theorem State.startMotor_frame (s : State) (r : Record) (target : Points) :
    (s.startMotor r target).inReset = s.inReset ∧ (s.startMotor r target).opr = s.opr ∧
    (s.startMotor r target).ctu = s.ctu ∧ (s.startMotor r target).liu = s.liu ∧ (s.startMotor r target).mbu = s.mbu ∧
    (s.startMotor r target).rte = s.rte ∧ (s.startMotor r target).mou = s.mou ∧ (s.startMotor r target).pos = s.pos ∧
    (s.startMotor r target).pending = s.pending := by
  unfold State.startMotor
  try dsimp only
  repeat' split
  all_goals simp

/-- `State.leaveQueue` changes at most toc. -/
@[simp] theorem State.leaveQueue_frame (s : State) (seg : Seg) :
    (s.leaveQueue seg).inReset = s.inReset ∧ (s.leaveQueue seg).opr = s.opr ∧ (s.leaveQueue seg).ctu = s.ctu ∧
    (s.leaveQueue seg).liu = s.liu ∧ (s.leaveQueue seg).txq = s.txq ∧ (s.leaveQueue seg).mbu = s.mbu ∧
    (s.leaveQueue seg).rte = s.rte ∧ (s.leaveQueue seg).mou = s.mou ∧ (s.leaveQueue seg).pos = s.pos ∧
    (s.leaveQueue seg).dpt = s.dpt ∧ (s.leaveQueue seg).pending = s.pending := by
  unfold State.leaveQueue
  try dsimp only
  repeat' split
  all_goals simp

/-- `State.startChecks` changes at most toc, dpt, txq. -/
@[simp] theorem State.startChecks_frame (s : State) (segs : List Seg) :
    (s.startChecks segs).inReset = s.inReset ∧ (s.startChecks segs).opr = s.opr ∧ (s.startChecks segs).ctu = s.ctu ∧
    (s.startChecks segs).liu = s.liu ∧ (s.startChecks segs).mbu = s.mbu ∧ (s.startChecks segs).rte = s.rte ∧
    (s.startChecks segs).mou = s.mou ∧ (s.startChecks segs).pos = s.pos ∧
    (s.startChecks segs).pending = s.pending := by
  induction segs generalizing s with
  | nil => simp [State.startChecks]
  | cons a rest ih =>
    unfold State.startChecks
    try dsimp only
    repeat' split
    all_goals simp [ih]

/-- `State.pump` changes at most toc, dpt, txq. -/
@[simp] theorem State.pump_frame (s : State) :
    s.pump.inReset = s.inReset ∧ s.pump.opr = s.opr ∧ s.pump.ctu = s.ctu ∧ s.pump.liu = s.liu ∧ s.pump.mbu = s.mbu ∧
    s.pump.rte = s.rte ∧ s.pump.mou = s.mou ∧ s.pump.pos = s.pos ∧ s.pump.pending = s.pending := by
  unfold State.pump
  try dsimp only
  repeat' split
  all_goals simp

/-- `State.joinQueue` changes at most toc, dpt, txq. -/
@[simp] theorem State.joinQueue_frame (s : State) (seg : Seg) (target : Points) (answer : Option Answer) :
    (s.joinQueue seg target answer).inReset = s.inReset ∧ (s.joinQueue seg target answer).opr = s.opr ∧
    (s.joinQueue seg target answer).ctu = s.ctu ∧ (s.joinQueue seg target answer).liu = s.liu ∧
    (s.joinQueue seg target answer).mbu = s.mbu ∧ (s.joinQueue seg target answer).rte = s.rte ∧
    (s.joinQueue seg target answer).mou = s.mou ∧ (s.joinQueue seg target answer).pos = s.pos ∧
    (s.joinQueue seg target answer).pending = s.pending := by
  unfold State.joinQueue
  try dsimp only
  repeat' split
  all_goals simp

/-- `State.wonTurnout` changes at most toc, dpt, txq. -/
@[simp] theorem State.wonTurnout_frame (s : State) (seg : Seg) (required : Option Points) (answer : Answer) :
    (s.wonTurnout seg required answer).inReset = s.inReset ∧ (s.wonTurnout seg required answer).opr = s.opr ∧
    (s.wonTurnout seg required answer).ctu = s.ctu ∧ (s.wonTurnout seg required answer).liu = s.liu ∧
    (s.wonTurnout seg required answer).mbu = s.mbu ∧ (s.wonTurnout seg required answer).rte = s.rte ∧
    (s.wonTurnout seg required answer).mou = s.mou ∧ (s.wonTurnout seg required answer).pos = s.pos ∧
    (s.wonTurnout seg required answer).pending = s.pending := by
  unfold State.wonTurnout
  try dsimp only
  repeat' split
  all_goals simp

/-- `State.endThrow` changes at most toc, dpt, txq. -/
@[simp] theorem State.endThrow_frame (s : State) (r : Record) (lie : Lie) (cause : LieCause) :
    (s.endThrow r lie cause).inReset = s.inReset ∧ (s.endThrow r lie cause).opr = s.opr ∧
    (s.endThrow r lie cause).ctu = s.ctu ∧ (s.endThrow r lie cause).liu = s.liu ∧
    (s.endThrow r lie cause).mbu = s.mbu ∧ (s.endThrow r lie cause).rte = s.rte ∧
    (s.endThrow r lie cause).mou = s.mou ∧ (s.endThrow r lie cause).pos = s.pos ∧
    (s.endThrow r lie cause).pending = s.pending := by
  unfold State.endThrow
  try dsimp only
  repeat' split
  all_goals simp

/-- `State.testLocked` changes at most toc, dpt, txq. -/
@[simp] theorem State.testLocked_frame (s : State) (r : Record) (p : Points) :
    (s.testLocked r p).inReset = s.inReset ∧ (s.testLocked r p).opr = s.opr ∧ (s.testLocked r p).ctu = s.ctu ∧
    (s.testLocked r p).liu = s.liu ∧ (s.testLocked r p).mbu = s.mbu ∧ (s.testLocked r p).rte = s.rte ∧
    (s.testLocked r p).mou = s.mou ∧ (s.testLocked r p).pos = s.pos ∧ (s.testLocked r p).pending = s.pending := by
  unfold State.testLocked
  try dsimp only
  repeat' split
  all_goals simp

/-- `State.testLost` changes at most toc, dpt, txq. -/
@[simp] theorem State.testLost_frame (s : State) (r : Record) :
    (s.testLost r).inReset = s.inReset ∧ (s.testLost r).opr = s.opr ∧ (s.testLost r).ctu = s.ctu ∧
    (s.testLost r).liu = s.liu ∧ (s.testLost r).mbu = s.mbu ∧ (s.testLost r).rte = s.rte ∧
    (s.testLost r).mou = s.mou ∧ (s.testLost r).pos = s.pos ∧ (s.testLost r).pending = s.pending := by
  unfold State.testLost
  try dsimp only
  repeat' split
  all_goals simp

/-- `State.testDetectors` changes at most toc, dpt, txq. -/
@[simp] theorem State.testDetectors_frame (s : State) (r : Record) :
    (s.testDetectors r).inReset = s.inReset ∧ (s.testDetectors r).opr = s.opr ∧ (s.testDetectors r).ctu = s.ctu ∧
    (s.testDetectors r).liu = s.liu ∧ (s.testDetectors r).mbu = s.mbu ∧ (s.testDetectors r).rte = s.rte ∧
    (s.testDetectors r).mou = s.mou ∧ (s.testDetectors r).pos = s.pos ∧ (s.testDetectors r).pending = s.pending := by
  unfold State.testDetectors
  try dsimp only
  repeat' split
  all_goals simp

/-- `State.occupancyRise` changes at most toc, dpt, txq. -/
@[simp] theorem State.occupancyRise_frame (s : State) (r : Record) :
    (s.occupancyRise r).inReset = s.inReset ∧ (s.occupancyRise r).opr = s.opr ∧ (s.occupancyRise r).ctu = s.ctu ∧
    (s.occupancyRise r).liu = s.liu ∧ (s.occupancyRise r).mbu = s.mbu ∧ (s.occupancyRise r).rte = s.rte ∧
    (s.occupancyRise r).mou = s.mou ∧ (s.occupancyRise r).pos = s.pos ∧ (s.occupancyRise r).pending = s.pending := by
  unfold State.occupancyRise
  try dsimp only
  repeat' split
  all_goals simp

/-- `State.occupancyEvent` changes at most toc, dpt, txq. -/
@[simp] theorem State.occupancyEvent_frame (s : State) (r : Record) (level : Bool) :
    (s.occupancyEvent r level).inReset = s.inReset ∧ (s.occupancyEvent r level).opr = s.opr ∧
    (s.occupancyEvent r level).ctu = s.ctu ∧ (s.occupancyEvent r level).liu = s.liu ∧
    (s.occupancyEvent r level).mbu = s.mbu ∧ (s.occupancyEvent r level).rte = s.rte ∧
    (s.occupancyEvent r level).mou = s.mou ∧ (s.occupancyEvent r level).pos = s.pos ∧
    (s.occupancyEvent r level).pending = s.pending := by
  unfold State.occupancyEvent
  try dsimp only
  repeat' split
  all_goals simp

/-- `State.answerWins` changes at most toc, dpt, txq. -/
@[simp] theorem State.answerWins_frame (s : State) (r : Report) :
    (s.answerWins r).inReset = s.inReset ∧ (s.answerWins r).opr = s.opr ∧ (s.answerWins r).ctu = s.ctu ∧
    (s.answerWins r).liu = s.liu ∧ (s.answerWins r).mbu = s.mbu ∧ (s.answerWins r).rte = s.rte ∧
    (s.answerWins r).mou = s.mou ∧ (s.answerWins r).pos = s.pos ∧ (s.answerWins r).pending = s.pending := by
  unfold State.answerWins
  try dsimp only
  repeat' split
  all_goals simp [foldl_keeps]

/-- `State.dropQueued` changes at most toc. -/
@[simp] theorem State.dropQueued_frame (s : State) (r : Report) :
    (s.dropQueued r).inReset = s.inReset ∧ (s.dropQueued r).opr = s.opr ∧ (s.dropQueued r).ctu = s.ctu ∧
    (s.dropQueued r).liu = s.liu ∧ (s.dropQueued r).txq = s.txq ∧ (s.dropQueued r).mbu = s.mbu ∧
    (s.dropQueued r).rte = s.rte ∧ (s.dropQueued r).mou = s.mou ∧ (s.dropQueued r).pos = s.pos ∧
    (s.dropQueued r).dpt = s.dpt ∧ (s.dropQueued r).pending = s.pending := by
  unfold State.dropQueued
  try dsimp only
  repeat' split
  all_goals simp [foldl_keeps]

/-- `State.reportLocked` changes at most txq. -/
@[simp] theorem State.reportLocked_frame (s : State) (seg : Seg) :
    (s.reportLocked seg).inReset = s.inReset ∧ (s.reportLocked seg).opr = s.opr ∧ (s.reportLocked seg).ctu = s.ctu ∧
    (s.reportLocked seg).liu = s.liu ∧ (s.reportLocked seg).mbu = s.mbu ∧ (s.reportLocked seg).rte = s.rte ∧
    (s.reportLocked seg).mou = s.mou ∧ (s.reportLocked seg).pos = s.pos ∧ (s.reportLocked seg).toc = s.toc ∧
    (s.reportLocked seg).dpt = s.dpt ∧ (s.reportLocked seg).pending = s.pending := by
  unfold State.reportLocked
  try dsimp only
  repeat' split
  all_goals simp

/-- `State.possessionOutcome` changes at most toc, dpt, txq. -/
@[simp] theorem State.possessionOutcome_frame (s : State) (r : Report) (withdrawn : Bool) :
    (s.possessionOutcome r withdrawn).inReset = s.inReset ∧ (s.possessionOutcome r withdrawn).opr = s.opr ∧
    (s.possessionOutcome r withdrawn).ctu = s.ctu ∧ (s.possessionOutcome r withdrawn).liu = s.liu ∧
    (s.possessionOutcome r withdrawn).mbu = s.mbu ∧ (s.possessionOutcome r withdrawn).rte = s.rte ∧
    (s.possessionOutcome r withdrawn).mou = s.mou ∧ (s.possessionOutcome r withdrawn).pos = s.pos ∧
    (s.possessionOutcome r withdrawn).pending = s.pending := by
  unfold State.possessionOutcome
  try dsimp only
  repeat' split
  all_goals simp

/-- `State.possessionTold` changes at most toc, dpt, txq. -/
@[simp] theorem State.possessionTold_frame (s : State) (r : Report) (told : Option ClaimTold) :
    (s.possessionTold r told).inReset = s.inReset ∧ (s.possessionTold r told).opr = s.opr ∧
    (s.possessionTold r told).ctu = s.ctu ∧ (s.possessionTold r told).liu = s.liu ∧
    (s.possessionTold r told).mbu = s.mbu ∧ (s.possessionTold r told).rte = s.rte ∧
    (s.possessionTold r told).mou = s.mou ∧ (s.possessionTold r told).pos = s.pos ∧
    (s.possessionTold r told).pending = s.pending := by
  unfold State.possessionTold
  try dsimp only
  repeat' split
  all_goals simp

/-- `State.possessionEnds` changes at most dpt. -/
@[simp] theorem State.possessionEnds_frame (s : State) (r : Report) :
    (s.possessionEnds r).inReset = s.inReset ∧ (s.possessionEnds r).opr = s.opr ∧ (s.possessionEnds r).ctu = s.ctu ∧
    (s.possessionEnds r).liu = s.liu ∧ (s.possessionEnds r).txq = s.txq ∧ (s.possessionEnds r).mbu = s.mbu ∧
    (s.possessionEnds r).rte = s.rte ∧ (s.possessionEnds r).mou = s.mou ∧ (s.possessionEnds r).pos = s.pos ∧
    (s.possessionEnds r).toc = s.toc ∧ (s.possessionEnds r).pending = s.pending := by
  unfold State.possessionEnds
  try dsimp only
  repeat' split
  all_goals simp

/-- `State.turnoutReport` changes at most toc, dpt, txq. -/
@[simp] theorem State.turnoutReport_frame (s : State) (r : Report) (told : Option ClaimTold) :
    (s.turnoutReport r told).inReset = s.inReset ∧ (s.turnoutReport r told).opr = s.opr ∧
    (s.turnoutReport r told).ctu = s.ctu ∧ (s.turnoutReport r told).liu = s.liu ∧
    (s.turnoutReport r told).mbu = s.mbu ∧ (s.turnoutReport r told).rte = s.rte ∧
    (s.turnoutReport r told).mou = s.mou ∧ (s.turnoutReport r told).pos = s.pos ∧
    (s.turnoutReport r told).pending = s.pending := by
  unfold State.turnoutReport
  try dsimp only
  repeat' split
  all_goals simp [foldl_keeps]

/-- `State.turnoutTold` changes at most toc. -/
@[simp] theorem State.turnoutTold_frame (s : State) (told : Option ClaimTold) :
    (s.turnoutTold told).inReset = s.inReset ∧ (s.turnoutTold told).opr = s.opr ∧ (s.turnoutTold told).ctu = s.ctu ∧
    (s.turnoutTold told).liu = s.liu ∧ (s.turnoutTold told).txq = s.txq ∧ (s.turnoutTold told).mbu = s.mbu ∧
    (s.turnoutTold told).rte = s.rte ∧ (s.turnoutTold told).mou = s.mou ∧ (s.turnoutTold told).pos = s.pos ∧
    (s.turnoutTold told).dpt = s.dpt ∧ (s.turnoutTold told).pending = s.pending := by
  unfold State.turnoutTold
  try dsimp only
  repeat' split
  all_goals simp

/-- `State.turnoutRelisten` changes at most toc, dpt. -/
@[simp] theorem State.turnoutRelisten_frame (s : State) (held : Nat) :
    (s.turnoutRelisten held).inReset = s.inReset ∧ (s.turnoutRelisten held).opr = s.opr ∧
    (s.turnoutRelisten held).ctu = s.ctu ∧ (s.turnoutRelisten held).liu = s.liu ∧
    (s.turnoutRelisten held).txq = s.txq ∧ (s.turnoutRelisten held).mbu = s.mbu ∧
    (s.turnoutRelisten held).rte = s.rte ∧ (s.turnoutRelisten held).mou = s.mou ∧
    (s.turnoutRelisten held).pos = s.pos ∧ (s.turnoutRelisten held).pending = s.pending := by
  unfold State.turnoutRelisten
  try dsimp only
  repeat' split
  all_goals simp

/-- `State.returnThrow` changes at most toc, dpt, txq. -/
@[simp] theorem State.returnThrow_frame (s : State) (seg : Seg) (answer : Answer) (target : Points) :
    (s.returnThrow seg answer target).inReset = s.inReset ∧ (s.returnThrow seg answer target).opr = s.opr ∧
    (s.returnThrow seg answer target).ctu = s.ctu ∧ (s.returnThrow seg answer target).liu = s.liu ∧
    (s.returnThrow seg answer target).mbu = s.mbu ∧ (s.returnThrow seg answer target).rte = s.rte ∧
    (s.returnThrow seg answer target).mou = s.mou ∧ (s.returnThrow seg answer target).pos = s.pos ∧
    (s.returnThrow seg answer target).pending = s.pending := by
  unfold State.returnThrow
  try dsimp only
  repeat' split
  all_goals simp

/-- `State.returnTurnout` changes at most toc, dpt, txq. -/
@[simp] theorem State.returnTurnout_frame (s : State) (seg : Seg) :
    (s.returnTurnout seg).inReset = s.inReset ∧ (s.returnTurnout seg).opr = s.opr ∧
    (s.returnTurnout seg).ctu = s.ctu ∧ (s.returnTurnout seg).liu = s.liu ∧ (s.returnTurnout seg).mbu = s.mbu ∧
    (s.returnTurnout seg).rte = s.rte ∧ (s.returnTurnout seg).mou = s.mou ∧ (s.returnTurnout seg).pos = s.pos ∧
    (s.returnTurnout seg).pending = s.pending := by
  unfold State.returnTurnout
  try dsimp only
  repeat' split
  all_goals simp

/-- `State.turnoutReturn` changes at most toc, dpt, txq. -/
@[simp] theorem State.turnoutReturn_frame (s : State) :
    s.turnoutReturn.inReset = s.inReset ∧ s.turnoutReturn.opr = s.opr ∧ s.turnoutReturn.ctu = s.ctu ∧
    s.turnoutReturn.liu = s.liu ∧ s.turnoutReturn.mbu = s.mbu ∧ s.turnoutReturn.rte = s.rte ∧
    s.turnoutReturn.mou = s.mou ∧ s.turnoutReturn.pos = s.pos ∧ s.turnoutReturn.pending = s.pending := by
  unfold State.turnoutReturn
  try dsimp only
  repeat' split
  all_goals simp [foldl_keeps]

end Sys2Proof.Machine
end

