-- ==== Sys2Proof/Laws/MembershipFrames.lean ====
section
/-! SUPPORT. Which blocks each operation of Machine/Membership.lean leaves as they are; later proofs cite these lemmas and do not unfold the operation. -/
namespace Sys2Proof.Machine

open Sys2Proof

set_option linter.unusedTactic false
set_option linter.unreachableTactic false

/-- `State.setPeer` changes at most mbu. -/
@[simp] theorem State.setPeer_frame (s : State) (k : Station) (p : Peer) :
    (s.setPeer k p).inReset = s.inReset ∧ (s.setPeer k p).opr = s.opr ∧ (s.setPeer k p).ctu = s.ctu ∧
    (s.setPeer k p).liu = s.liu ∧ (s.setPeer k p).txq = s.txq ∧ (s.setPeer k p).rte = s.rte ∧
    (s.setPeer k p).mou = s.mou ∧ (s.setPeer k p).pos = s.pos ∧ (s.setPeer k p).toc = s.toc ∧
    (s.setPeer k p).dpt = s.dpt ∧ (s.setPeer k p).pending = s.pending := by
  unfold State.setPeer
  try dsimp only
  repeat' split
  all_goals simp

/-- `State.enter` changes at most mbu, dpt. -/
@[simp] theorem State.enter_frame (s : State) (state : StationState) (cause : ChangeCause) :
    (s.enter state cause).inReset = s.inReset ∧ (s.enter state cause).opr = s.opr ∧
    (s.enter state cause).ctu = s.ctu ∧ (s.enter state cause).liu = s.liu ∧ (s.enter state cause).txq = s.txq ∧
    (s.enter state cause).rte = s.rte ∧ (s.enter state cause).mou = s.mou ∧ (s.enter state cause).pos = s.pos ∧
    (s.enter state cause).toc = s.toc ∧ (s.enter state cause).pending = s.pending := by
  unfold State.enter
  try dsimp only
  repeat' split
  all_goals simp

/-- `State.tellRelisten` changes at most rte, pos, mou, dpt, toc. -/
@[simp] theorem State.tellRelisten_frame (s : State) (held : Nat) :
    (s.tellRelisten held).inReset = s.inReset ∧ (s.tellRelisten held).opr = s.opr ∧
    (s.tellRelisten held).ctu = s.ctu ∧ (s.tellRelisten held).liu = s.liu ∧ (s.tellRelisten held).txq = s.txq ∧
    (s.tellRelisten held).mbu = s.mbu ∧ (s.tellRelisten held).pending = s.pending := by
  unfold State.tellRelisten
  try dsimp only
  repeat' split
  all_goals simp

/-- `State.relisten` changes at most ctu, liu, txq, mbu, rte, mou, pos, toc, dpt. -/
@[simp] theorem State.relisten_frame (s : State) (cause : ChangeCause) :
    (s.relisten cause).inReset = s.inReset ∧ (s.relisten cause).opr = s.opr ∧
    (s.relisten cause).pending = s.pending := by
  unfold State.relisten
  try dsimp only
  repeat' split
  all_goals simp

/-- `State.relistenIf` changes at most ctu, liu, txq, mbu, rte, mou, pos, toc, dpt. -/
@[simp] theorem State.relistenIf_frame (s : State) (b : Bool) (cause : ChangeCause) :
    (s.relistenIf b cause).inReset = s.inReset ∧ (s.relistenIf b cause).opr = s.opr ∧
    (s.relistenIf b cause).pending = s.pending := by
  unfold State.relistenIf
  try dsimp only
  repeat' split
  all_goals simp

/-- `State.tellHalt` changes at most rte, pos, mou, dpt, toc. -/
@[simp] theorem State.tellHalt_frame (s : State) :
    s.tellHalt.inReset = s.inReset ∧ s.tellHalt.opr = s.opr ∧ s.tellHalt.ctu = s.ctu ∧ s.tellHalt.liu = s.liu ∧
    s.tellHalt.txq = s.txq ∧ s.tellHalt.mbu = s.mbu ∧ s.tellHalt.pending = s.pending := by
  unfold State.tellHalt
  try dsimp only
  repeat' split
  all_goals simp

/-- `State.duplicateHalt` changes at most ctu, liu, txq, mbu, rte, mou, pos, toc, dpt. -/
@[simp] theorem State.duplicateHalt_frame (s : State) :
    s.duplicateHalt.inReset = s.inReset ∧ s.duplicateHalt.opr = s.opr ∧ s.duplicateHalt.pending = s.pending := by
  unfold State.duplicateHalt
  try dsimp only
  repeat' split
  all_goals simp

/-- `State.requestLapse` changes at most txq. -/
@[simp] theorem State.requestLapse_frame (s : State) (k : Station) :
    (s.requestLapse k).inReset = s.inReset ∧ (s.requestLapse k).opr = s.opr ∧ (s.requestLapse k).ctu = s.ctu ∧
    (s.requestLapse k).liu = s.liu ∧ (s.requestLapse k).mbu = s.mbu ∧ (s.requestLapse k).rte = s.rte ∧
    (s.requestLapse k).mou = s.mou ∧ (s.requestLapse k).pos = s.pos ∧ (s.requestLapse k).toc = s.toc ∧
    (s.requestLapse k).dpt = s.dpt ∧ (s.requestLapse k).pending = s.pending := by
  unfold State.requestLapse
  try dsimp only
  repeat' split
  all_goals simp

/-- `State.requestLapses` changes at most txq. -/
@[simp] theorem State.requestLapses_frame (s : State) :
    s.requestLapses.inReset = s.inReset ∧ s.requestLapses.opr = s.opr ∧ s.requestLapses.ctu = s.ctu ∧
    s.requestLapses.liu = s.liu ∧ s.requestLapses.mbu = s.mbu ∧ s.requestLapses.rte = s.rte ∧
    s.requestLapses.mou = s.mou ∧ s.requestLapses.pos = s.pos ∧ s.requestLapses.toc = s.toc ∧
    s.requestLapses.dpt = s.dpt ∧ s.requestLapses.pending = s.pending := by
  unfold State.requestLapses
  try dsimp only
  repeat' split
  all_goals simp [foldl_keeps]

/-- `State.announce` changes at most mbu, dpt, txq. -/
@[simp] theorem State.announce_frame (s : State) :
    s.announce.inReset = s.inReset ∧ s.announce.opr = s.opr ∧ s.announce.ctu = s.ctu ∧ s.announce.liu = s.liu ∧
    s.announce.rte = s.rte ∧ s.announce.mou = s.mou ∧ s.announce.pos = s.pos ∧ s.announce.toc = s.toc ∧
    s.announce.pending = s.pending := by
  unfold State.announce
  try dsimp only
  repeat' split
  all_goals simp

/-- `State.tellActive` changes at most rte, pos, mou, dpt, txq, toc. -/
@[simp] theorem State.tellActive_frame (s : State) :
    s.tellActive.inReset = s.inReset ∧ s.tellActive.opr = s.opr ∧ s.tellActive.ctu = s.ctu ∧
    s.tellActive.liu = s.liu ∧ s.tellActive.mbu = s.mbu ∧ s.tellActive.pending = s.pending := by
  unfold State.tellActive
  try dsimp only
  repeat' split
  all_goals simp

/-- `State.startOwnLease` changes at most mbu. -/
@[simp] theorem State.startOwnLease_frame (s : State) :
    s.startOwnLease.inReset = s.inReset ∧ s.startOwnLease.opr = s.opr ∧ s.startOwnLease.ctu = s.ctu ∧
    s.startOwnLease.liu = s.liu ∧ s.startOwnLease.txq = s.txq ∧ s.startOwnLease.rte = s.rte ∧
    s.startOwnLease.mou = s.mou ∧ s.startOwnLease.pos = s.pos ∧ s.startOwnLease.toc = s.toc ∧
    s.startOwnLease.dpt = s.dpt ∧ s.startOwnLease.pending = s.pending := by
  unfold State.startOwnLease
  try dsimp only
  repeat' split
  all_goals simp

/-- `State.activate` changes at most mbu, rte, pos, mou, dpt, txq, toc. -/
@[simp] theorem State.activate_frame (s : State) :
    s.activate.inReset = s.inReset ∧ s.activate.opr = s.opr ∧ s.activate.ctu = s.ctu ∧ s.activate.liu = s.liu ∧
    s.activate.pending = s.pending := by
  unfold State.activate
  try dsimp only
  repeat' split
  all_goals simp

/-- `State.see` changes at most mbu, dpt. -/
@[simp] theorem State.see_frame (s : State) (k : Station) :
    (s.see k).inReset = s.inReset ∧ (s.see k).opr = s.opr ∧ (s.see k).ctu = s.ctu ∧ (s.see k).liu = s.liu ∧
    (s.see k).txq = s.txq ∧ (s.see k).rte = s.rte ∧ (s.see k).mou = s.mou ∧ (s.see k).pos = s.pos ∧
    (s.see k).toc = s.toc ∧ (s.see k).pending = s.pending := by
  unfold State.see
  try dsimp only
  repeat' split
  all_goals simp

/-- `State.lapse` changes at most mbu, dpt. -/
@[simp] theorem State.lapse_frame (s : State) (k : Station) :
    (s.lapse k).inReset = s.inReset ∧ (s.lapse k).opr = s.opr ∧ (s.lapse k).ctu = s.ctu ∧ (s.lapse k).liu = s.liu ∧
    (s.lapse k).txq = s.txq ∧ (s.lapse k).rte = s.rte ∧ (s.lapse k).mou = s.mou ∧ (s.lapse k).pos = s.pos ∧
    (s.lapse k).toc = s.toc ∧ (s.lapse k).pending = s.pending := by
  unfold State.lapse
  try dsimp only
  repeat' split
  all_goals simp

/-- `State.recordRole` changes at most mbu. -/
@[simp] theorem State.recordRole_frame (s : State) (sender : Station) (role : Role) :
    (s.recordRole sender role).inReset = s.inReset ∧ (s.recordRole sender role).opr = s.opr ∧
    (s.recordRole sender role).ctu = s.ctu ∧ (s.recordRole sender role).liu = s.liu ∧
    (s.recordRole sender role).txq = s.txq ∧ (s.recordRole sender role).rte = s.rte ∧
    (s.recordRole sender role).mou = s.mou ∧ (s.recordRole sender role).pos = s.pos ∧
    (s.recordRole sender role).toc = s.toc ∧ (s.recordRole sender role).dpt = s.dpt ∧
    (s.recordRole sender role).pending = s.pending := by
  unfold State.recordRole
  try dsimp only
  repeat' split
  all_goals simp

/-- `State.peerContent` changes at most mbu, dpt. -/
@[simp] theorem State.peerContent_frame (s : State) (sender : Station) (p : Payload) :
    (s.peerContent sender p).inReset = s.inReset ∧ (s.peerContent sender p).opr = s.opr ∧
    (s.peerContent sender p).ctu = s.ctu ∧ (s.peerContent sender p).liu = s.liu ∧
    (s.peerContent sender p).txq = s.txq ∧ (s.peerContent sender p).rte = s.rte ∧
    (s.peerContent sender p).mou = s.mou ∧ (s.peerContent sender p).pos = s.pos ∧
    (s.peerContent sender p).toc = s.toc ∧ (s.peerContent sender p).pending = s.pending := by
  unfold State.peerContent
  try dsimp only
  repeat' split
  all_goals simp [foldl_keeps]

/-- `State.mapConflict` changes at most mbu, dpt. -/
@[simp] theorem State.mapConflict_frame (s : State) (sender : Station) :
    (s.mapConflict sender).inReset = s.inReset ∧ (s.mapConflict sender).opr = s.opr ∧
    (s.mapConflict sender).ctu = s.ctu ∧ (s.mapConflict sender).liu = s.liu ∧ (s.mapConflict sender).txq = s.txq ∧
    (s.mapConflict sender).rte = s.rte ∧ (s.mapConflict sender).mou = s.mou ∧ (s.mapConflict sender).pos = s.pos ∧
    (s.mapConflict sender).toc = s.toc ∧ (s.mapConflict sender).pending = s.pending := by
  unfold State.mapConflict
  try dsimp only
  repeat' split
  all_goals simp

/-- `State.sightingLost` changes at most mbu, dpt. -/
@[simp] theorem State.sightingLost_frame (s : State) :
    s.sightingLost.inReset = s.inReset ∧ s.sightingLost.opr = s.opr ∧ s.sightingLost.ctu = s.ctu ∧
    s.sightingLost.liu = s.liu ∧ s.sightingLost.txq = s.txq ∧ s.sightingLost.rte = s.rte ∧
    s.sightingLost.mou = s.mou ∧ s.sightingLost.pos = s.pos ∧ s.sightingLost.toc = s.toc ∧
    s.sightingLost.pending = s.pending := by
  unfold State.sightingLost
  try dsimp only
  repeat' split
  all_goals simp

/-- `State.sightingTaken` changes at most mbu, dpt. -/
@[simp] theorem State.sightingTaken_frame (s : State) (before : Vector Peer 32) :
    (s.sightingTaken before).inReset = s.inReset ∧ (s.sightingTaken before).opr = s.opr ∧
    (s.sightingTaken before).ctu = s.ctu ∧ (s.sightingTaken before).liu = s.liu ∧
    (s.sightingTaken before).txq = s.txq ∧ (s.sightingTaken before).rte = s.rte ∧
    (s.sightingTaken before).mou = s.mou ∧ (s.sightingTaken before).pos = s.pos ∧
    (s.sightingTaken before).toc = s.toc ∧ (s.sightingTaken before).pending = s.pending := by
  unfold State.sightingTaken
  try dsimp only
  repeat' split
  all_goals simp

/-- `State.setListen` changes at most mbu. -/
@[simp] theorem State.setListen_frame (s : State) (f : Listen → Listen) :
    (s.setListen f).inReset = s.inReset ∧ (s.setListen f).opr = s.opr ∧ (s.setListen f).ctu = s.ctu ∧
    (s.setListen f).liu = s.liu ∧ (s.setListen f).txq = s.txq ∧ (s.setListen f).rte = s.rte ∧
    (s.setListen f).mou = s.mou ∧ (s.setListen f).pos = s.pos ∧ (s.setListen f).toc = s.toc ∧
    (s.setListen f).dpt = s.dpt ∧ (s.setListen f).pending = s.pending := by
  unfold State.setListen
  try dsimp only
  repeat' split
  all_goals simp

/-- `State.miss` changes at most mbu. -/
@[simp] theorem State.miss_frame (s : State) :
    s.miss.inReset = s.inReset ∧ s.miss.opr = s.opr ∧ s.miss.ctu = s.ctu ∧ s.miss.liu = s.liu ∧ s.miss.txq = s.txq ∧
    s.miss.rte = s.rte ∧ s.miss.mou = s.mou ∧ s.miss.pos = s.pos ∧ s.miss.toc = s.toc ∧ s.miss.dpt = s.dpt ∧
    s.miss.pending = s.pending := by
  unfold State.miss
  try dsimp only
  repeat' split
  all_goals simp

/-- `State.completionTest` changes at most mbu, dpt, txq. -/
@[simp] theorem State.completionTest_frame (s : State) :
    s.completionTest.inReset = s.inReset ∧ s.completionTest.opr = s.opr ∧ s.completionTest.ctu = s.ctu ∧
    s.completionTest.liu = s.liu ∧ s.completionTest.rte = s.rte ∧ s.completionTest.mou = s.mou ∧
    s.completionTest.pos = s.pos ∧ s.completionTest.toc = s.toc ∧ s.completionTest.pending = s.pending := by
  unfold State.completionTest
  try dsimp only
  repeat' split
  all_goals simp

/-- `State.learn` changes at most mbu, ctu. -/
@[simp] theorem State.learn_frame (s : State) (f : Frame) (p : Payload) :
    (s.learn f p).inReset = s.inReset ∧ (s.learn f p).opr = s.opr ∧ (s.learn f p).liu = s.liu ∧
    (s.learn f p).txq = s.txq ∧ (s.learn f p).rte = s.rte ∧ (s.learn f p).mou = s.mou ∧ (s.learn f p).pos = s.pos ∧
    (s.learn f p).toc = s.toc ∧ (s.learn f p).dpt = s.dpt ∧ (s.learn f p).pending = s.pending := by
  unfold State.learn
  try dsimp only
  repeat' split
  all_goals simp

/-- `State.retry` changes at most ctu, mbu, dpt. -/
@[simp] theorem State.retry_frame (s : State) :
    s.retry.inReset = s.inReset ∧ s.retry.opr = s.opr ∧ s.retry.liu = s.liu ∧ s.retry.txq = s.txq ∧
    s.retry.rte = s.rte ∧ s.retry.mou = s.mou ∧ s.retry.pos = s.pos ∧ s.retry.toc = s.toc ∧
    s.retry.pending = s.pending := by
  unfold State.retry
  try dsimp only
  repeat' split
  all_goals simp

/-- `State.configFault` changes at most opr, mbu, dpt. -/
@[simp] theorem State.configFault_frame (s : State) (fault : ConfigFault) :
    (s.configFault fault).inReset = s.inReset ∧ (s.configFault fault).ctu = s.ctu ∧
    (s.configFault fault).liu = s.liu ∧ (s.configFault fault).txq = s.txq ∧ (s.configFault fault).rte = s.rte ∧
    (s.configFault fault).mou = s.mou ∧ (s.configFault fault).pos = s.pos ∧ (s.configFault fault).toc = s.toc ∧
    (s.configFault fault).pending = s.pending := by
  unfold State.configFault
  try dsimp only
  repeat' split
  all_goals simp

/-- `State.leaveStart` changes at most toc, mbu, liu, dpt. -/
@[simp] theorem State.leaveStart_frame (s : State) :
    s.leaveStart.inReset = s.inReset ∧ s.leaveStart.opr = s.opr ∧ s.leaveStart.ctu = s.ctu ∧
    s.leaveStart.txq = s.txq ∧ s.leaveStart.rte = s.rte ∧ s.leaveStart.mou = s.mou ∧ s.leaveStart.pos = s.pos ∧
    s.leaveStart.pending = s.pending := by
  unfold State.leaveStart
  try dsimp only
  repeat' split
  all_goals simp

/-- `State.install` changes at most opr, ctu. -/
@[simp] theorem State.install_frame (s : State) (o : Options) (m : TrackMap) :
    (s.install o m).inReset = s.inReset ∧ (s.install o m).liu = s.liu ∧ (s.install o m).txq = s.txq ∧
    (s.install o m).mbu = s.mbu ∧ (s.install o m).rte = s.rte ∧ (s.install o m).mou = s.mou ∧
    (s.install o m).pos = s.pos ∧ (s.install o m).toc = s.toc ∧ (s.install o m).dpt = s.dpt ∧
    (s.install o m).pending = s.pending := by
  unfold State.install
  try dsimp only
  repeat' split
  all_goals simp

/-- `State.settleOdometer` changes at most pos. -/
@[simp] theorem State.settleOdometer_frame (s : State) (level : Bool) :
    (s.settleOdometer level).inReset = s.inReset ∧ (s.settleOdometer level).opr = s.opr ∧
    (s.settleOdometer level).ctu = s.ctu ∧ (s.settleOdometer level).liu = s.liu ∧
    (s.settleOdometer level).txq = s.txq ∧ (s.settleOdometer level).mbu = s.mbu ∧
    (s.settleOdometer level).rte = s.rte ∧ (s.settleOdometer level).mou = s.mou ∧
    (s.settleOdometer level).toc = s.toc ∧ (s.settleOdometer level).dpt = s.dpt ∧
    (s.settleOdometer level).pending = s.pending := by
  unfold State.settleOdometer
  try dsimp only
  repeat' split
  all_goals simp

/-- `State.tryLeaveStart` changes at most toc, mbu, liu, dpt. -/
@[simp] theorem State.tryLeaveStart_frame (s : State) :
    s.tryLeaveStart.inReset = s.inReset ∧ s.tryLeaveStart.opr = s.opr ∧ s.tryLeaveStart.ctu = s.ctu ∧
    s.tryLeaveStart.txq = s.txq ∧ s.tryLeaveStart.rte = s.rte ∧ s.tryLeaveStart.mou = s.mou ∧
    s.tryLeaveStart.pos = s.pos ∧ s.tryLeaveStart.pending = s.pending := by
  unfold State.tryLeaveStart
  try dsimp only
  repeat' split
  all_goals simp

/-- `State.endRead` changes at most opr, mbu, dpt, ctu, pos, toc, liu. -/
@[simp] theorem State.endRead_frame (s : State) (store : List Byte) (odo : Bool) :
    (s.endRead store odo).inReset = s.inReset ∧ (s.endRead store odo).txq = s.txq ∧
    (s.endRead store odo).rte = s.rte ∧ (s.endRead store odo).mou = s.mou ∧
    (s.endRead store odo).pending = s.pending := by
  unfold State.endRead
  try dsimp only
  repeat' split
  all_goals simp

/-- `State.endSettle` changes at most toc, mbu, liu, dpt. -/
@[simp] theorem State.endSettle_frame (s : State) (inputs : Vector Inputs 4) :
    (s.endSettle inputs).inReset = s.inReset ∧ (s.endSettle inputs).opr = s.opr ∧ (s.endSettle inputs).ctu = s.ctu ∧
    (s.endSettle inputs).txq = s.txq ∧ (s.endSettle inputs).rte = s.rte ∧ (s.endSettle inputs).mou = s.mou ∧
    (s.endSettle inputs).pos = s.pos ∧ (s.endSettle inputs).pending = s.pending := by
  unfold State.endSettle
  try dsimp only
  repeat' split
  all_goals simp

end Sys2Proof.Machine
end

