-- ==== Sys2Proof/Laws/LineFrames.lean ====
section
/-! SUPPORT. Which blocks each operation of Machine/Line.lean leaves as they are, the counted identity, and the phase after the CRC; later proofs cite these lemmas and do not unfold the operation. -/
namespace Sys2Proof.Machine

open Sys2Proof

set_option linter.unusedTactic false
set_option linter.unreachableTactic false

/-- `State.setLine` changes at most liu. -/
@[simp] theorem State.setLine_frame (s : State) (phase : Phase) (line : Option LineFrame) :
    (s.setLine phase line).inReset = s.inReset ∧ (s.setLine phase line).opr = s.opr ∧
    (s.setLine phase line).ctu = s.ctu ∧ (s.setLine phase line).txq = s.txq ∧ (s.setLine phase line).mbu = s.mbu ∧
    (s.setLine phase line).rte = s.rte ∧ (s.setLine phase line).mou = s.mou ∧ (s.setLine phase line).pos = s.pos ∧
    (s.setLine phase line).toc = s.toc ∧ (s.setLine phase line).dpt = s.dpt ∧
    (s.setLine phase line).pending = s.pending := by
  unfold State.setLine
  try dsimp only
  repeat' split
  all_goals simp

/-- `State.seekIdle` changes at most liu. -/
@[simp] theorem State.seekIdle_frame (s : State) (recessive : Nat) :
    (s.seekIdle recessive).inReset = s.inReset ∧ (s.seekIdle recessive).opr = s.opr ∧
    (s.seekIdle recessive).ctu = s.ctu ∧ (s.seekIdle recessive).txq = s.txq ∧ (s.seekIdle recessive).mbu = s.mbu ∧
    (s.seekIdle recessive).rte = s.rte ∧ (s.seekIdle recessive).mou = s.mou ∧ (s.seekIdle recessive).pos = s.pos ∧
    (s.seekIdle recessive).toc = s.toc ∧ (s.seekIdle recessive).dpt = s.dpt ∧
    (s.seekIdle recessive).pending = s.pending := by
  unfold State.seekIdle
  try dsimp only
  repeat' split
  all_goals simp

/-- `State.startSend` changes at most txq, liu. -/
@[simp] theorem State.startSend_frame (s : State) (e : TxEntry) :
    (s.startSend e).inReset = s.inReset ∧ (s.startSend e).opr = s.opr ∧ (s.startSend e).ctu = s.ctu ∧
    (s.startSend e).mbu = s.mbu ∧ (s.startSend e).rte = s.rte ∧ (s.startSend e).mou = s.mou ∧
    (s.startSend e).pos = s.pos ∧ (s.startSend e).toc = s.toc ∧ (s.startSend e).dpt = s.dpt ∧
    (s.startSend e).pending = s.pending := by
  unfold State.startSend
  try dsimp only
  repeat' split
  all_goals simp

/-- `State.startReceive` changes at most liu. -/
@[simp] theorem State.startReceive_frame (s : State) :
    s.startReceive.inReset = s.inReset ∧ s.startReceive.opr = s.opr ∧ s.startReceive.ctu = s.ctu ∧
    s.startReceive.txq = s.txq ∧ s.startReceive.mbu = s.mbu ∧ s.startReceive.rte = s.rte ∧
    s.startReceive.mou = s.mou ∧ s.startReceive.pos = s.pos ∧ s.startReceive.toc = s.toc ∧
    s.startReceive.dpt = s.dpt ∧ s.startReceive.pending = s.pending := by
  unfold State.startReceive
  try dsimp only
  repeat' split
  all_goals simp

/-- `State.countVeto` changes at most ctu, liu, txq, mbu, rte, mou, pos, toc, dpt. -/
@[simp] theorem State.countVeto_frame (s : State) :
    s.countVeto.inReset = s.inReset ∧ s.countVeto.opr = s.opr ∧ s.countVeto.pending = s.pending := by
  unfold State.countVeto
  try dsimp only
  repeat' split
  all_goals simp

/-- `State.countRejection` changes at most ctu, liu, txq, mbu, rte, mou, pos, toc, dpt. -/
@[simp] theorem State.countRejection_frame (s : State) :
    s.countRejection.inReset = s.inReset ∧ s.countRejection.opr = s.opr ∧ s.countRejection.pending = s.pending := by
  unfold State.countRejection
  try dsimp only
  repeat' split
  all_goals simp

/-- `State.tellRequester` changes at most rte, pos, mou, dpt, txq, toc. -/
@[simp] theorem State.tellRequester_frame (s : State) (told : Option ClaimTold) :
    (s.tellRequester told).inReset = s.inReset ∧ (s.tellRequester told).opr = s.opr ∧
    (s.tellRequester told).ctu = s.ctu ∧ (s.tellRequester told).liu = s.liu ∧ (s.tellRequester told).mbu = s.mbu ∧
    (s.tellRequester told).pending = s.pending := by
  unfold State.tellRequester
  try dsimp only
  repeat' split
  all_goals simp

/-- `State.sendOver` changes at most rte, pos, mou, dpt, txq, toc. -/
@[simp] theorem State.sendOver_frame (s : State) (o : SendOutcome) :
    (s.sendOver o).inReset = s.inReset ∧ (s.sendOver o).opr = s.opr ∧ (s.sendOver o).ctu = s.ctu ∧
    (s.sendOver o).liu = s.liu ∧ (s.sendOver o).mbu = s.mbu ∧ (s.sendOver o).pending = s.pending := by
  unfold State.sendOver
  try dsimp only
  repeat' split
  all_goals simp

/-- `State.loseArbitration` changes at most liu, rte, pos, mou, dpt, txq, toc. -/
@[simp] theorem State.loseArbitration_frame (s : State) :
    s.loseArbitration.inReset = s.inReset ∧ s.loseArbitration.opr = s.opr ∧ s.loseArbitration.ctu = s.ctu ∧
    s.loseArbitration.mbu = s.mbu ∧ s.loseArbitration.pending = s.pending := by
  unfold State.loseArbitration
  try dsimp only
  repeat' split
  all_goals simp

/-- `State.clashSend` changes at most ctu, liu, txq, mbu, rte, mou, pos, toc, dpt. -/
@[simp] theorem State.clashSend_frame (s : State) (arbitrated : Bool) :
    (s.clashSend arbitrated).inReset = s.inReset ∧ (s.clashSend arbitrated).opr = s.opr ∧
    (s.clashSend arbitrated).pending = s.pending := by
  unfold State.clashSend
  try dsimp only
  repeat' split
  all_goals simp

/-- `State.stuffError` changes at most liu, mbu, dpt. -/
@[simp] theorem State.stuffError_frame (s : State) (recessive : Bool) :
    (s.stuffError recessive).inReset = s.inReset ∧ (s.stuffError recessive).opr = s.opr ∧
    (s.stuffError recessive).ctu = s.ctu ∧ (s.stuffError recessive).txq = s.txq ∧
    (s.stuffError recessive).rte = s.rte ∧ (s.stuffError recessive).mou = s.mou ∧
    (s.stuffError recessive).pos = s.pos ∧ (s.stuffError recessive).toc = s.toc ∧
    (s.stuffError recessive).pending = s.pending := by
  unfold State.stuffError
  try dsimp only
  repeat' split
  all_goals simp

/-- `State.endBreak` changes at most ctu, liu, txq, mbu, rte, mou, pos, toc, dpt. -/
@[simp] theorem State.endBreak_frame (s : State) :
    s.endBreak.inReset = s.inReset ∧ s.endBreak.opr = s.opr ∧ s.endBreak.pending = s.pending := by
  unfold State.endBreak
  try dsimp only
  repeat' split
  all_goals simp

/-- `State.classifyOwn` changes at most liu. -/
@[simp] theorem State.classifyOwn_frame (s : State) (line : LineFrame) (own : OwnFrame) :
    (s.classifyOwn line own).inReset = s.inReset ∧ (s.classifyOwn line own).opr = s.opr ∧
    (s.classifyOwn line own).ctu = s.ctu ∧ (s.classifyOwn line own).txq = s.txq ∧
    (s.classifyOwn line own).mbu = s.mbu ∧ (s.classifyOwn line own).rte = s.rte ∧
    (s.classifyOwn line own).mou = s.mou ∧ (s.classifyOwn line own).pos = s.pos ∧
    (s.classifyOwn line own).toc = s.toc ∧ (s.classifyOwn line own).dpt = s.dpt ∧
    (s.classifyOwn line own).pending = s.pending := by
  unfold State.classifyOwn
  try dsimp only
  repeat' split
  all_goals simp

/-- `State.classifyOther` changes at most liu, mbu. -/
@[simp] theorem State.classifyOther_frame (s : State) (line : LineFrame) (f : Frame) :
    (s.classifyOther line f).inReset = s.inReset ∧ (s.classifyOther line f).opr = s.opr ∧
    (s.classifyOther line f).ctu = s.ctu ∧ (s.classifyOther line f).txq = s.txq ∧
    (s.classifyOther line f).rte = s.rte ∧ (s.classifyOther line f).mou = s.mou ∧
    (s.classifyOther line f).pos = s.pos ∧ (s.classifyOther line f).toc = s.toc ∧
    (s.classifyOther line f).dpt = s.dpt ∧ (s.classifyOther line f).pending = s.pending := by
  unfold State.classifyOther
  try dsimp only
  repeat' split
  all_goals simp

/-- `State.readVeto` changes at most ctu, liu, txq, mbu, rte, mou, pos, toc, dpt. -/
@[simp] theorem State.readVeto_frame (s : State) (line : LineFrame) (dominant : Bool) :
    (s.readVeto line dominant).inReset = s.inReset ∧ (s.readVeto line dominant).opr = s.opr ∧
    (s.readVeto line dominant).pending = s.pending := by
  unfold State.readVeto
  try dsimp only
  repeat' split
  all_goals simp

/-- `State.rejectFrame` changes at most ctu, liu, txq, mbu, rte, mou, pos, toc, dpt. -/
@[simp] theorem State.rejectFrame_frame (s : State) (line : LineFrame) :
    (s.rejectFrame line).inReset = s.inReset ∧ (s.rejectFrame line).opr = s.opr ∧
    (s.rejectFrame line).pending = s.pending := by
  unfold State.rejectFrame
  try dsimp only
  repeat' split
  all_goals simp

/-! ## The counted identity, and the phase after the CRC -/

/-- R59, R76: what the start bit does to an entry leaves its identity. -/
@[simp] theorem TxEntry.identity_launch (e : TxEntry) : e.launch.identity = e.identity := by
  rcases e with ⟨key, args, age, flight⟩
  cases key <;> cases args <;> rfl

/-- R44, R61: with no stuff bit after the CRC the slots come next. -/
theorem Phase.afterCrc_slots (phase : Phase) (f : Frame) (h : stuffBitFollows f = false) : phase.afterCrc f = .slots := by
  simp [Phase.afterCrc, h]

/-- R44, R61: for a stuff bit after the CRC the phase stays. -/
theorem Phase.afterCrc_stuffed (phase : Phase) (f : Frame) (h : stuffBitFollows f = true) : phase.afterCrc f = phase := by
  simp [Phase.afterCrc, h]

/-- R52, R61: when the veto slot comes next. -/
theorem Liu.vetoNext_iff (l : Liu) (line : LineFrame) :
    l.vetoNext line = true ↔
      line.received.isSome = true ∧ line.veto = none ∧ (l.phase = .slots ∨ l.phase = .send ∨ l.phase = .receive) := by
  simp only [Liu.vetoNext, Bool.and_eq_true, Bool.or_eq_true, beq_iff_eq, Option.isNone_iff_eq_none, and_assoc, or_assoc]

/-- R59: the count that a clash goes by: from 0 after arbitration for an entry other than the one counted. -/
theorem Liu.countClash_rejections (l : Liu) (arbitrated : Bool) (id : SendId) :
    (l.countClash arbitrated id).rejections = (if arbitrated = true ∧ l.counted ≠ some id then 0 else l.rejections) ∧
      (l.countClash arbitrated id).counted = if arbitrated = true then some id else l.counted := by
  cases arbitrated <;> by_cases h : l.counted = some id <;> simp [Liu.countClash, Liu.countFor, h]

end Sys2Proof.Machine
end

