-- ==== Sys2Proof/Laws/Ops.lean ====
section
/-! SUPPORT. What each shared operation makes of the block it changes; later proofs cite these lemmas and do not unfold the operation. -/
namespace Sys2Proof.Machine

open Sys2Proof

/-- Outside reset a command is its effect. -/
theorem live_next (f : State → State) (s : State) (h : s.inReset = false) : live f s = .next (f s) := by simp [live, h]

/-- While reset is held a command does nothing. -/
theorem live_held (f : State → State) (s : State) (h : s.inReset = true) : live f s = .next s := by simp [live, h]

@[simp] theorem State.post_dpt (s : State) (n : Notice) : (s.post n).dpt = s.dpt.post n := rfl
@[simp] theorem State.assertStop_mou (s : State) (c : StopCause) : (s.assertStop c).mou = s.mou.assertStop c := rfl
@[simp] theorem State.refreshDuty_mou (s : State) : s.refreshDuty.mou = { s.mou with next := s.duty } := rfl

/-- Notices leave the reply and the last transaction as they were. -/
@[simp] theorem Dpt.post_reply (d : Dpt) (n : Notice) : (d.post n).reply = d.reply := by unfold Dpt.post; split <;> rfl
@[simp] theorem Dpt.post_shifted (d : Dpt) (n : Notice) : (d.post n).shifted = d.shifted := by unfold Dpt.post; split <;> rfl

@[simp] theorem Mou.assertStop_stop (m : Mou) (c : StopCause) : (m.assertStop c).stop = true := rfl
@[simp] theorem Mou.assertStop_current (m : Mou) (c : StopCause) : (m.assertStop c).current = 0 := rfl
@[simp] theorem Mou.assertStop_next (m : Mou) (c : StopCause) : (m.assertStop c).next = 0 := rfl
@[simp] theorem Mou.assertStop_keep (m : Mou) (c : StopCause) : (m.assertStop c).keep = m.keep := rfl
@[simp] theorem Mou.assertStop_stopCause (m : Mou) (c : StopCause) :
    (m.assertStop c).stopCause = if m.stop then m.stopCause else c := rfl

/-- R72 to R74: an accepted request is the queue's own; one that is refused leaves the queue. -/
theorem State.txRequest_txq (s : State) (key : EntryKey) (args : Args) :
    (s.txRequest key args).txq = if s.txAccepts key args then s.txq.request key args else s.txq := by
  unfold State.txRequest; split <;> simp_all

/-- R109: the engine's state after a change. -/
@[simp] theorem State.setEngine_rte (s : State) (state : RteState) :
    (s.setEngine state).rte = { s.rte with state := state } := by
  unfold State.setEngine
  split
  · next h => rw [← h]
  · dsimp only; split <;> rfl

/-- R143: leaving MOVING drops the duty at once. -/
theorem State.setEngine_mou (s : State) (state : RteState) :
    (s.setEngine state).mou = if s.rte.state = .moving ∧ state ≠ .moving then s.mou.dropDuty else s.mou := by
  unfold State.setEngine
  split
  · next h => rw [if_neg]; rintro ⟨h1, h2⟩; exact h2 (h ▸ h1)
  · next h =>
    dsimp only
    split
    · next hm => rw [if_pos ⟨hm, fun h2 => h (hm.trans h2.symm)⟩]; rfl
    · next hm => rw [if_neg (fun h2 => hm h2.1)]; rfl

/-- R154: a change of the engine's state restarts the creep count and leaves the rest of the position. -/
theorem State.setEngine_pos (s : State) (state : RteState) :
    (s.setEngine state).pos = if s.rte.state = state then s.pos else s.pos.restartCreep := by
  unfold State.setEngine
  split
  · rfl
  · dsimp only; split <;> rfl

@[simp] theorem Pos.restartCreep_fault (p : Pos) : p.restartCreep.fault = p.fault := rfl
@[simp] theorem Pos.restartCreep_odometer (p : Pos) : p.restartCreep.odometer = p.odometer := rfl
@[simp] theorem Pos.restartCreep_badTags (p : Pos) : p.restartCreep.badTags = p.badTags := rfl

@[simp] theorem State.setEngine_fault (s : State) (state : RteState) : (s.setEngine state).pos.fault = s.pos.fault := by
  rw [State.setEngine_pos]; split <;> rfl

@[simp] theorem State.setEngine_head (s : State) (state : RteState) : (s.setEngine state).head = s.head := by
  unfold State.head
  rw [State.setEngine_pos]
  split
  · rfl
  · simp [Pos.restartCreep]; rfl

@[simp] theorem State.setEngine_tail (s : State) (state : RteState) : (s.setEngine state).tail = s.tail := by
  unfold State.tail
  rw [State.setEngine_pos]
  split
  · rfl
  · simp only [Pos.restartCreep]; cases s.pos.place <;> rfl

@[simp] theorem State.setEngine_offset (s : State) (state : RteState) :
    (s.setEngine state).pos.place.map (·.offset) = s.pos.place.map (·.offset) := by
  rw [State.setEngine_pos]
  split
  · rfl
  · simp [Pos.restartCreep]; rfl

/-- R154: the restarted creep count leaves head, tail, offset and boundary. -/
theorem Pos.restartCreep_place (p : Pos) :
    p.restartCreep.place.map (·.head) = p.place.map (·.head) ∧ p.restartCreep.place.map (·.tail) = p.place.map (·.tail) ∧
      p.restartCreep.place.map (·.offset) = p.place.map (·.offset) ∧
      p.restartCreep.place.map (·.boundary) = p.place.map (·.boundary) := by
  unfold Pos.restartCreep
  cases p.place <;> simp

/-- R109: a change of the engine's state leaves head, tail, offset and boundary. -/
theorem State.setEngine_place (s : State) (state : RteState) :
    (s.setEngine state).pos.place.map (·.head) = s.pos.place.map (·.head) ∧
      (s.setEngine state).pos.place.map (·.tail) = s.pos.place.map (·.tail) ∧
      (s.setEngine state).pos.place.map (·.offset) = s.pos.place.map (·.offset) ∧
      (s.setEngine state).pos.place.map (·.boundary) = s.pos.place.map (·.boundary) := by
  rw [State.setEngine_pos]
  split
  · simp
  · exact Pos.restartCreep_place s.pos

/-- What follows from the options and the map alone. -/
theorem State.of_opr {s t : State} (h : t.opr = s.opr) :
    t.role = s.role ∧ t.me = s.me ∧ t.roster = s.roster ∧ t.option = s.option ∧ t.bp = s.bp ∧ t.isCarriage = s.isCarriage ∧
      t.isWayside = s.isWayside ∧ t.seg = s.seg ∧ t.owned = s.owned := by
  have ho : t.option = s.option := by funext f; simp [State.option, h]
  have hr : t.role = s.role := by simp [State.role, h]
  refine ⟨hr, by simp [State.me, h], by simp [State.roster, h], ho, by simp [State.bp, ho], by simp [State.isCarriage, hr],
    by simp [State.isWayside, hr], ?_, by simp [State.owned, h]⟩
  funext seg
  simp [State.seg, h]

/-- What follows from the station state alone. -/
theorem State.of_station {s t : State} (h : t.mbu.station = s.mbu.station) : t.online = s.online ∧ t.isActive = s.isActive := by
  simp [State.online, State.isActive, h]

end Sys2Proof.Machine
end

