-- ==== Sys2Proof/Laws/Sets.lean ====
section
/-! SUPPORT. Tables, sets of segments and stations, and lists without repeats, by their members. -/
namespace Sys2Proof.Machine

open Sys2Proof

set_option linter.unusedSimpArgs false

/-- A table at an index. -/
theorem tab_get {n : Nat} {α : Type} (f : Fin n → α) (i : Fin n) : (tab f)[i] = f i := by
  simp [tab]

/-- A table at an index, by its number. -/
@[simp] theorem tab_getVal {n : Nat} {α : Type} (f : Fin n → α) (i : Fin n) : (tab f)[i.val] = f i := by
  simp [tab]

/-- A table with one entry replaced. -/
@[simp] theorem tabSet_getVal {n : Nat} {α : Type} (t : Vector α n) (i j : Fin n) (a : α) : (tabSet t i a)[j.val] = if j = i then a else t[j] := by
  simp [tabSet]

/-- The set of one segment. -/
theorem segHas_one (a b : Seg) : segHas (segOne a) b = decide (a = b) := by revert a b; decide +kernel

/-- The set of a list of segments. -/
theorem segHas_setOf (l : List Seg) (i : Seg) : segHas (segSetOf l) i = decide (i ∈ l) := by
  induction l with
  | nil => simp [segSetOf, segHas]
  | cons a l ih =>
    have : segHas (segSetOf (a :: l)) i = (segHas (segOne a) i || segHas (segSetOf l) i) := by
      simp [segSetOf, segHas]
    rw [this, ih, segHas_one]; simp [Bool.decide_or, eq_comm]

/-- An ascending list of segments is read back from its set. -/
theorem segList_sub (l : List Seg) (h : l.Sublist allSegs) : segList (segSetOf l) = l := by
  have hn : allSegs.Nodup := List.nodup_finRange 64
  have e : segList (segSetOf l) = allSegs.filter (fun i => decide (i ∈ l)) := by
    unfold segList; congr 1; funext i; exact segHas_setOf l i
  rw [e]
  clear e
  generalize allSegs = m at *
  induction h with
  | slnil => rfl
  | cons a h ih =>
    rw [List.filter_cons_of_neg]
    · exact ih (List.nodup_cons.1 hn).2
    · simp; intro h2; exact (List.nodup_cons.1 hn).1 (h.subset h2)
  | @cons_cons l₁ l₂ a h ih =>
    rw [List.filter_cons_of_pos (by simp)]
    congr 1
    have hn2 := (List.nodup_cons.1 hn)
    refine Eq.trans (List.filter_congr ?_) (ih hn2.2)
    intro x hx
    have : x ≠ a := fun h => hn2.1 (h ▸ hx)
    simp [this]

/-- The set of one station. -/
theorem stationHas_one (a b : Station) : stationHas (stationOne a) b = decide (a = b) := by revert a b; decide +kernel

/-- The test for repeats. -/
theorem distinct_nodup {α : Type} [DecidableEq α] (l : List α) : distinct l = true ↔ l.Nodup := by
  induction l with
  | nil => simp [distinct]
  | cons a l ih => simp [distinct, ih]

/-- The entry of a segment, in a list that names it once. -/
theorem find_of_distinct {β : Type} (l : List β) (f : β → Seg) (h : (l.map f).Nodup) (e : β) (he : e ∈ l) : l.find? (fun x => f x == f e) = some e := by
  induction l with
  | nil => cases he
  | cons a l ih =>
    simp only [List.map_cons, List.nodup_cons] at h
    rcases List.mem_cons.1 he with rfl | he
    · simp
    · have : f a ≠ f e := fun h2 => h.1 (h2 ▸ List.mem_map.2 ⟨e, he, rfl⟩)
      rw [List.find?_cons_of_neg (by simpa using this)]
      exact ih h.2 he

/-- A segment the list does not name. -/
theorem find_none_of {β : Type} (l : List β) (f : β → Seg) (i : Seg) (h : i ∉ l.map f) : l.find? (fun x => f x == i) = none := by
  rw [List.find?_eq_none]; intro x hx h2; exact h (List.mem_map.2 ⟨x, hx, by simpa using h2⟩)

end Sys2Proof.Machine
end

