-- ==== Sys2Proof/Laws/Queue.lean ====
section
/-! SUPPORT. The transmit queue: which entries a request leaves (R72 to R74), and what an outcome does (R77). -/
namespace Sys2Proof.Machine

open Sys2Proof

set_option linter.unusedSimpArgs false

/-- A kind is found when some entry is of it. -/
theorem Txq.find_isSome (q : Txq) (k) : (q.find k).isSome = true ↔ k ∈ q.entries.map (·.key) := by
  simp only [Txq.find, List.find?_isSome, List.mem_map]
  constructor
  · rintro ⟨x, h1, h2⟩; exact ⟨x, h1, by simpa using h2⟩
  · rintro ⟨x, h1, h2⟩; exact ⟨x, h1, by simpa using h2⟩

/-- A found entry is of its kind. -/
theorem find_some_key {q : Txq} {k e} (h : q.find k = some e) : e.key = k := by
  have := List.find?_some h; simpa using this

/-- Replacing an entry by one of its kind keeps the kinds. -/
theorem replace_keys (q : Txq) (k) (e : TxEntry) (he : e.key = k) : (q.replace k (some e)).entries.map (·.key) = q.entries.map (·.key) := by
  simp only [Txq.replace]
  induction q.entries with
  | nil => rfl
  | cons a l ih =>
    rw [List.filterMap_cons]
    by_cases h : a.key = k
    · simp [h, he, ih]
    · simp [h, ih]

/-- A pending addition keeps the kinds. -/
theorem addPending_keys (q : Txq) (e f args) : (q.addPending e f args).entries.map (·.key) = q.entries.map (·.key) := by
  unfold Txq.addPending
  split
  · rfl
  · split
    · exact replace_keys q e.key _ rfl
    · exact replace_keys q e.key _ rfl

/-- A new entry comes last. -/
theorem create_keys (q : Txq) (k args) : (q.create k args).entries.map (·.key) = q.entries.map (·.key) ++ [k] := by simp [Txq.create]

/-- A request keeps the kinds or adds its own at the end. -/
theorem request_keys (q : Txq) (k args) : (q.request k args).entries.map (·.key) = q.entries.map (·.key) ∨
   ((q.request k args) = q.create k args ∧ q.find k = none) := by
  unfold Txq.request
  split
  · left; rfl
  · split
    · right; exact ⟨rfl, by assumption⟩
    · rename_i e he
      have hk := find_some_key he
      left
      split
      · rfl
      · split
        · exact replace_keys q k _ hk
        · exact addPending_keys _ _ _ _

/-- A request keeps what is queued. -/
theorem request_find_keep (q : Txq) (k args k') (h : (q.find k').isSome = true) : ((q.request k args).find k').isSome = true := by
  rw [Txq.find_isSome] at *
  rcases request_keys q k args with h2 | ⟨h2, -⟩
  · rw [h2]; exact h
  · rw [h2, create_keys]; simp at h ⊢; left; exact h

/-- After a request its kind is queued. -/
theorem request_find_self (q : Txq) (k args) (he : args.isEmpty = false) : ((q.request k args).find k).isSome = true := by
  cases hq : (q.find k).isSome with
  | true => exact request_find_keep q k args k hq
  | false =>
    have : q.find k = none := by simpa using hq
    simp [Txq.request, he, this]
    rw [Txq.find_isSome, create_keys]; simp

/-- A request of a block keeps what is queued. -/
theorem txRequest_find_keep (s : State) (k args k') (h : (s.txq.find k').isSome = true) : ((s.txRequest k args).txq.find k').isSome = true := by
  rw [State.txRequest_txq]; split
  · exact request_find_keep _ _ _ _ h
  · exact h

/-- A request of one kind adds no other. -/
theorem request_find_other (q : Txq) (k k' args) (h : k ≠ k') (hq : q.find k' = none) : (q.request k args).find k' = none := by
  cases hh : (q.request k args).find k' with
  | none => rfl
  | some e =>
    have h1 : ((q.request k args).find k').isSome = true := by simp [hh]
    have h2 : ¬ ((q.find k').isSome = true) := by simp [hq]
    rw [Txq.find_isSome] at h1 h2
    rcases request_keys q k args with h3 | ⟨h3, -⟩
    · rw [h3] at h1; exact absurd h1 h2
    · rw [h3, create_keys] at h1
      simp at h1 h2
      rcases h1 with ⟨a, h4, h5⟩ | h1
      · exact absurd h5 (h2 a h4)
      · exact absurd h1.symm h

/-- Nothing to tell changes nothing. -/
theorem tell_none (s : State) : s.tellRequester none = s := by
  unfold State.tellRequester; split <;> simp [State.routeTold, State.turnoutTold]

/-- R77: an entry that was not withdrawn is given back. -/
theorem sendOver_keep (s : State) (o) (ho : o = .rejected ∨ o = .notSent) (e f) (hf : s.txq.flying = some e) (he : e.flight = some f) (hw : f.withdrawn = false) :
    s.sendOver o = s.setTxq (s.txq.replace e.key (some (e.mergedBack f))) := by
  rcases ho with rfl | rfl <;> simp [State.sendOver, Txq.outcome, hf, he, hw, tell_none]

/-- R77: TAKEN removes what was sent; what is pending beside it stays as the entry. -/
theorem Txq.outcome_taken (q : Txq) (e f) (hf : q.flying = some e) (he : e.flight = some f) :
    (q.outcome .taken).1 =
      q.replace e.key (f.pending.map fun p => { e with args := p.args, age := p.age, flight := none }) := by
  unfold Txq.outcome
  rw [hf]
  dsimp only
  rw [he]
  rfl

/-- R57: no outcome with no entry in flight. -/
theorem sendOver_none (s : State) (o) (hf : s.txq.flying = none) : s.sendOver o = s := by
  simp [State.sendOver, Txq.outcome, hf, tell_none]; try rfl

end Sys2Proof.Machine
end

