-- ==== Sys2Proof/Laws/Engine.lean ====
section
/-! SUPPORT. The route engine and the position tracker: halts (R136), the offer rule (R133), the planner (R114), authority (R131), faults (R160). -/
namespace Sys2Proof.Machine

open Sys2Proof

set_option linter.unusedSimpArgs false
set_option maxHeartbeats 1000000

/-- R136: the notice of a halt. -/
theorem halt_post (s : State) (c) : (s.halt c).dpt = if s.rte.state = .moving then s.dpt.post (.halted c s.haltStep) else s.dpt := by
  unfold State.halt; split <;> simp

/-- R136: a halt keeps fault, head, tail and offset. -/
theorem halt_place (s : State) (c) : (s.halt c).pos.fault = s.pos.fault ∧ (s.halt c).pos.place.map (·.head) = s.pos.place.map (·.head) ∧
   (s.halt c).pos.place.map (·.tail) = s.pos.place.map (·.tail) ∧
   (s.halt c).pos.place.map (·.offset) = s.pos.place.map (·.offset) ∧ (s.halt c).pos.odometer = s.pos.odometer ∧ (s.halt c).pos.badTags = s.pos.badTags := by
  unfold State.halt
  split
  · obtain ⟨h1, h2, h3, h4⟩ := State.setEngine_place s .halted
    simp only [State.post_frame, State.setRte_pos, State.setEngine_fault]
    refine ⟨trivial, h1, h2, h3, ?_, ?_⟩ <;> rw [State.setEngine_pos] <;> split <;> rfl
  · simp

/-- R136, R143: a halt drops the duty. -/
theorem halt_mou (s : State) (c) : (s.halt c).mou = if s.rte.state = .moving then s.mou.dropDuty else s.mou := by
  unfold State.halt; split
  · rename_i h; simp [State.setEngine_mou, h]
  · rfl

/-- R133, R136: a halt ends MOVING and the offer. -/
theorem halt_rte (s : State) (c) : (s.halt c).rte = if s.rte.state = .moving then { s.rte with state := .halted, offer := none } else s.rte := by
  unfold State.halt; split <;> simp

/-- R133: the offer rule changes serial and offer alone. -/
theorem refreshOffer_rte (s : State) : ∃ sr o, s.refreshOffer.rte = { s.rte with serial := sr, offer := o } := by
  unfold State.refreshOffer
  split
  · exact ⟨s.rte.serial, none, by simp⟩
  · split
    · exact ⟨s.rte.serial, s.rte.offer, rfl⟩
    · exact ⟨_, _, by simp; exact ⟨rfl, rfl⟩⟩

/-- R133, R144: so does the whole refresh. -/
theorem refresh_rte (s : State) : ∃ sr o, s.refresh.rte = { s.rte with serial := sr, offer := o } := by
  obtain ⟨a, b, h⟩ := refreshOffer_rte s
  exact ⟨a, b, by simp [State.refresh, h]⟩

/-- R144: the refresh sets the next duty. -/
theorem refresh_mou (s : State) : s.refresh.mou = { s.mou with next := s.refreshOffer.duty } := by
  simp [State.refresh]

/-- R133: with nothing offerable no offer is current. -/
theorem refresh_off (s : State) (h : s.offerable = none) : s.refreshOffer = s.setRte { s.rte with offer := none } := by
  simp [State.refreshOffer, h]

/-- R133: what the offer rule asks an offer for. -/
theorem State.offerable_eq_some (s : State) (a : Nat) : s.offerable = some a ↔
    (s.rte.state = .routed ∨ s.rte.state = .moving) ∧ s.mou.stop = false ∧ s.authority = some a ∧
      ∃ k, s.rte.committedLimit = some k ∧ k < a := by
  unfold State.offerable
  cases s.authority with
  | none => simp
  | some x =>
    cases s.rte.committedLimit with
    | none => simp
    | some k =>
      cases s.mou.stop <;> cases s.rte.state <;> simp
      all_goals
        constructor
        · rintro ⟨h, rfl⟩
          exact ⟨rfl, h⟩
        · rintro ⟨rfl, h⟩
          exact ⟨h, rfl⟩

/-- R133: the current offer stays while it names the step. -/
theorem State.refreshOffer_keep (s : State) (o : Offer) (ho : s.rte.offer = some o) (h : s.offerable = some o.step) :
    s.refreshOffer = s := by
  simp [State.refreshOffer, h, ho]

/-- The refresh keeps the position. -/
theorem refresh_pos (s : State) : s.refresh.pos = s.pos := by simp

/-- The refresh keeps the reply. -/
theorem refresh_reply (s : State) : s.refresh.dpt.reply = s.dpt.reply ∧ s.refresh.dpt.shifted = s.dpt.shifted := by
  simp [State.refresh, State.refreshOffer]
  split
  · simp
  · split <;> simp

/-- R114: the planner at rest. -/
theorem plan_quiet (s : State) (h : s.placementDone = false) (h2 : s.mayPlan = false ∨ s.bundle = []) : s.plan = s := by
  unfold State.plan
  simp only [h]
  rcases h2 with h2 | h2
  · simp [h2]
  · simp [h2]

/-- R114: the planner queues its bundle. -/
theorem plan_queue (s : State) (f r) (h : s.placementDone = false) (h2 : s.mayPlan = true) (h3 : s.bundle = f :: r) : s.plan = s.queueClaim f r := by
  unfold State.plan
  simp [h, h2, h3]

/-- R114, R117: the engine after a claim is queued. -/
theorem queueClaim_rte (s : State) (f r) : (s.queueClaim f r).rte = { s.rte with
    route := tagSteps s.rte.route (f :: r) s.rte.tagCounter
    tagCounter := s.rte.tagCounter + 1
    claim := (s.queueClaim f r).rte.claim } := by
  simp [State.queueClaim]

/-- R114: what the planner may change of the engine. -/
theorem plan_rte (s : State) (h : s.placementDone = false) : ∃ tc cl bs tg, s.plan.rte = { s.rte with route := tagSteps s.rte.route bs tg, tagCounter := tc, claim := cl } := by
  unfold State.plan
  simp only [h]
  simp only [Bool.false_eq_true, if_false]
  have e : ∀ l : List Step, tagSteps l [] 0 = l := by intro l; simp [tagSteps]
  split
  · split
    · exact ⟨_, _, [], 0, by rw [e]⟩
    · exact ⟨_, _, _, _, queueClaim_rte s _ _⟩
  · exact ⟨_, _, [], 0, by rw [e]⟩

/-- R114: the planner keeps motion, position and port. -/
theorem plan_mou_pos (s : State) (h : s.placementDone = false) : s.plan.mou = s.mou ∧ s.plan.pos = s.pos ∧ s.plan.dpt = s.dpt := by
  unfold State.plan
  simp only [h]
  simp only [Bool.false_eq_true, if_false]
  split
  · split <;> simp
  · simp

/-- R112: a placement ends in PLACING alone. -/
theorem notPlacing_done (s : State) (h : s.rte.state ≠ .placing) : s.placementDone = false := by
  simp [State.placementDone, h]

/-- R114, R133: what planner and offer rule may change of the engine. -/
theorem settle_rte (s : State) (h : s.placementDone = false) : ∃ tc cl bs tg sr o, s.settle.rte = { s.rte with route := tagSteps s.rte.route bs tg, tagCounter := tc, claim := cl, serial := sr, offer := o } := by
  obtain ⟨tc, cl, bs, tg, hpr⟩ := plan_rte s h
  obtain ⟨a, b, hrr⟩ := refresh_rte s.plan
  exact ⟨tc, cl, bs, tg, a, b, by simp [State.settle, hrr, hpr]⟩

/-- R114, R133, R144: and of motion, position and reply. -/
theorem settle_mou (s : State) (h : s.placementDone = false) : s.settle.mou = { s.mou with next := s.settle.mou.next } ∧ s.settle.pos = s.pos ∧ s.settle.dpt.reply = s.dpt.reply ∧ s.settle.dpt.shifted = s.dpt.shifted := by
  obtain ⟨q1, q2, q3⟩ := plan_mou_pos s h
  obtain ⟨e1, e2⟩ := refresh_reply s.plan
  refine ⟨?_, ?_, ?_, ?_⟩
  · simp [State.settle, refresh_mou, q1]
  · simp [State.settle, q2]
  · simp [State.settle, e1, q3]
  · simp [State.settle, e2, q3]

/-- R117: tags keep the numbers. -/
theorem tagSteps_num (l bs t) : (tagSteps l bs t).map (·.num) = l.map (·.num) := by
  simp only [tagSteps, List.map_map]; apply List.map_congr_left; intro x _; simp only [Function.comp]; split <;> rfl

/-- The planner keeps what is queued. -/
theorem plan_find (s : State) (k) (h : (s.txq.find k).isSome = true) : (s.plan.txq.find k).isSome = true := by
  unfold State.plan
  dsimp only
  have e : (if s.placementDone then s.placementWon else s).txq = s.txq := by split <;> simp
  generalize (if s.placementDone = true then s.placementWon else s) = u at e ⊢
  split
  · split
    · rw [e]; exact h
    · simp only [State.queueClaim, State.setRte_txq]; apply txRequest_find_keep; rw [e]; exact h
  · rw [e]; exact h

/-- The planner keeps the step numbers. -/
theorem plan_nums (s : State) : s.plan.rte.route.map (·.num) = s.rte.route.map (·.num) := by
  unfold State.plan
  dsimp only
  have e : (if s.placementDone then s.placementWon else s).rte.route = s.rte.route := by
    split
    · simp only [State.placementWon, State.postIf_frame]; simp
    · rfl
  generalize (if s.placementDone = true then s.placementWon else s) = u at e ⊢
  split
  · split
    · rw [e]
    · simp [State.queueClaim, tagSteps_num, e]
  · rw [e]

/-- The planner keeps head, tail and offset. -/
theorem plan_place (s : State) : s.plan.pos.place.map (·.head) = s.pos.place.map (·.head) ∧ s.plan.pos.place.map (·.tail) = s.pos.place.map (·.tail) ∧ s.plan.pos.place.map (·.offset) = s.pos.place.map (·.offset) := by
  unfold State.plan
  dsimp only
  have e : (if s.placementDone then s.placementWon else s).pos.place.map (·.head) = s.pos.place.map (·.head) ∧ (if s.placementDone then s.placementWon else s).pos.place.map (·.tail) = s.pos.place.map (·.tail) ∧ (if s.placementDone then s.placementWon else s).pos.place.map (·.offset) = s.pos.place.map (·.offset) := by
    split
    · have := State.setEngine_place s (if s.rte.locatedHalted then .halted else .parked)
      simp only [State.placementWon, State.postIf_frame, State.setRte_pos]; exact ⟨this.1, this.2.1, this.2.2.1⟩
    · simp
  generalize (if s.placementDone = true then s.placementWon else s) = u at e ⊢
  split
  · split
    · exact e
    · simp only [State.queueClaim_frame]; exact e
  · exact e

/-- The last step of an unbroken run, in a route whose numbers rise. -/
theorem filter_sorted_split (l : List Step) (p : Step → Bool) (hl : l.Pairwise (fun a b => a.num < b.num)) (last : Step) (hlast : (l.takeWhile p).getLast? = some last) :
   last ∈ l ∧ (∀ x ∈ l, x.num ≤ last.num → p x = true) ∧ (∀ x ∈ l, x.num = last.num + 1 → p x = false) := by
  have hmem : last ∈ l.takeWhile p := List.mem_of_getLast? hlast
  have hin := (List.takeWhile_sublist p).subset hmem
  have hsplit := List.takeWhile_append_dropWhile (p := p) (l := l)
  have key : ∀ x ∈ l, x ∈ l.takeWhile p ∨ (x ∈ l.dropWhile p) := by
    intro x hx; rw [← hsplit] at hx; exact List.mem_append.1 hx
  have hpw : ∀ x ∈ l.dropWhile p, last.num < x.num := by
    rw [← hsplit, List.pairwise_append] at hl
    intro x hx; exact hl.2.2 last hmem x hx
  have htw : ∀ x ∈ l.takeWhile p, x.num ≤ last.num := by
    have h2 := (List.pairwise_append.1 (hsplit ▸ hl)).1
    obtain ⟨ys, hys⟩ := List.getLast?_eq_some_iff.1 hlast
    rw [hys] at h2 ⊢
    intro x hx
    rcases List.mem_append.1 hx with h | h
    · exact Nat.le_of_lt ((List.pairwise_append.1 h2).2.2 x h last (by simp))
    · simp at h; subst h; exact Nat.le_refl _
  refine ⟨hin, fun x hx hle => ?_, fun x hx he => ?_⟩
  · rcases key x hx with h | h
    · exact List.mem_takeWhile_imp h
    · have := hpw x h; omega
  · rcases key x hx with h | h
    · have := htw x h; omega
    · -- x is the head of dropWhile
      cases hd : l.dropWhile p with
      | nil => rw [hd] at h; cases h
      | cons a t =>
        have ha : p a = false := by
          have := List.head?_dropWhile_not p l
          rw [hd] at this; simpa using this
        have h2 := (List.pairwise_append.1 (hsplit ▸ hl)).2.1
        rw [hd] at h h2
        rcases List.mem_cons.1 h with rfl | h3
        · exact ha
        · have h4 := (List.pairwise_cons.1 h2).1 x h3
          have h5 := hpw a (by rw [hd]; simp)
          omega

/-- R131: a valid step. -/
theorem valid_iff (st : Step) : st.valid = true ↔ st.held = true ∧ (st.required.isSome → st.confirmed = true) := by
  unfold Step.valid; cases st.held <;> cases st.required <;> cases st.confirmed <;> simp

/-- R131: when an authority limit is present. -/
theorem authority_facts (s : State) (k) (ha : s.authority = some k) : s.mbu.station = .active ∧ ∃ h, s.headNum = some h ∧ validLimit s.rte.route h = some k ∧ s.rte.state.hasAuthority = true := by
  unfold State.authority at ha
  split at ha
  · rename_i hc
    simp [State.isActive] at hc
    obtain ⟨h, h1, h2⟩ := Option.bind_eq_some_iff.1 ha
    exact ⟨hc.1, h, h1, h2, hc.2⟩
  · cases ha

/-- R131: what the authority limit is. -/
theorem validLimit_facts (l : List Step) (h k) (hl : l.Pairwise (fun a b => a.num < b.num)) (hv : validLimit l h = some k) :
   h ≤ k ∧ (∃ st ∈ l, st.num = k) ∧ (∀ st ∈ l, h ≤ st.num → st.num ≤ k → st.valid = true) ∧ (∀ st ∈ l, st.num = k + 1 → st.valid = false) := by
  unfold validLimit at hv
  obtain ⟨last, h1, h2⟩ := Option.map_eq_some_iff.1 hv
  subst h2
  obtain ⟨f1, f2, f3⟩ := filter_sorted_split _ Step.valid (hl.sublist List.filter_sublist) last h1
  have f1' := List.mem_filter.1 f1
  have hle : h ≤ last.num := by simpa using f1'.2
  exact ⟨hle, ⟨last, f1'.1, rfl⟩, fun st hs h3 h4 => f2 st (List.mem_filter.2 ⟨hs, by simpa using h3⟩) h4,
    fun st hs h3 => f3 st (List.mem_filter.2 ⟨hs, by simp; omega⟩) h3⟩

/-- R160: a position fault. -/
theorem raise_all (s : State) (f : PosFault) :
  (s.raiseFault f).mou = { s.mou with stop := true, stopCause := if s.mou.stop then s.mou.stopCause else .position, current := 0, next := 0 } ∧
  (s.raiseFault f).rte = { s.rte with offer := none, state := if s.rte.state = .moving then .halted else s.rte.state } ∧
  (s.raiseFault f).dpt = (if s.rte.state = .moving then (s.dpt.post (.position f)).post (.halted .position (s.headNum.getD 255)) else s.dpt.post (.position f)) ∧
  (s.raiseFault f).txq = s.txq ∧ (s.raiseFault f).pos.fault = some f ∧ (s.raiseFault f).pos.place.map (·.head) = s.pos.place.map (·.head) ∧
  (s.raiseFault f).pos.place.map (·.offset) = s.pos.place.map (·.offset) ∧
  (s.rte.state ≠ .moving → (s.raiseFault f).pos = { s.pos with fault := some f }) := by
  unfold State.raiseFault
  obtain ⟨v, hv⟩ : ∃ v, v = ((s.setPos { s.pos with fault := some f }).post (.position f)).assertStop .position := ⟨_, rfl⟩
  rw [← hv]
  have hvr : v.rte = s.rte := by rw [hv]; simp
  have hvt : v.txq = s.txq := by rw [hv]; simp
  have hvp : v.pos = { s.pos with fault := some f } := by rw [hv]; simp
  have hvd : v.dpt = s.dpt.post (.position f) := by rw [hv]; simp
  have hvm : v.mou = { s.mou with stop := true, stopCause := if s.mou.stop then s.mou.stopCause else .position, current := 0, next := 0 } := by
    rw [hv]; simp [Mou.assertStop, Mou.dropDuty]
  have hvh : v.haltStep = s.headNum.getD 255 := by simp [State.haltStep, State.headNum, State.headStep, State.head, hvr, hvp, Config.byteTop]
  have hst : (v.halt .position).mou.stop = true := by rw [halt_mou]; split <;> simp [hvm, Mou.dropDuty]
  have hoff : (v.halt .position).offerable = none := by simp [State.offerable, hst]
  have hdu : ∀ x : State, x.mou.stop = true → x.duty = 0 := by intro x hx; simp [State.duty, hx]
  have hp := halt_place v .position
  unfold State.refresh
  rw [refresh_off _ hoff]
  simp only [State.refreshDuty_mou, State.refreshDuty_frame, State.setRte_mou, State.setRte_rte, State.setRte_dpt, State.setRte_pos, State.setRte_txq, State.halt_frame]
  rw [hdu _ (by simpa using hst), halt_mou, halt_rte, halt_post, hvr, hvd, hvh, hvm]
  refine ⟨?_, ?_, ?_, ?_, ?_, ?_, ?_, ?_⟩
  · split <;> rfl
  · split <;> simp [*]
  · rfl
  · exact hvt
  · rw [hp.1, hvp]
  · rw [hp.2.1, hvp]
  · rw [hp.2.2.2.1, hvp]
  · intro hm; unfold State.halt; rw [hvr, if_neg hm, hvp]

/-- R160: a position fault keeps the tail. -/
theorem raise_tail (s : State) (f : PosFault) : (s.raiseFault f).pos.place.map (·.tail) = s.pos.place.map (·.tail) := by
  unfold State.raiseFault
  have hp := halt_place (((s.setPos { s.pos with fault := some f }).post (.position f)).assertStop .position) .position
  simp only [State.refresh_frame]
  simpa using hp.2.2.1

/-- R151: the tests of a count keep place, route and queue. -/
theorem countTests_facts (s : State) (p : Placement) (h : s.pos.place = some p) :
  s.countTests.pos.place.map (·.head) = some p.head ∧ s.countTests.pos.place.map (·.tail) = some p.tail ∧ s.countTests.pos.place.map (·.offset) = some p.offset ∧
  s.countTests.rte.route = s.rte.route ∧ s.countTests.txq = s.txq := by
  unfold State.countTests
  simp only [h]
  have key : ∀ (u : State) f (q : Placement), u.pos.place = some q → q.head = p.head → q.tail = p.tail → q.offset = p.offset → u.rte = s.rte → u.txq = s.txq →
    (u.raiseFault f).pos.place.map (·.head) = some p.head ∧ (u.raiseFault f).pos.place.map (·.tail) = some p.tail ∧ (u.raiseFault f).pos.place.map (·.offset) = some p.offset ∧
  (u.raiseFault f).rte.route = s.rte.route ∧ (u.raiseFault f).txq = s.txq := by
    intro u f q h1 h2 h3 h4 h5 h6
    obtain ⟨a1, a2, a3, a4, a5, a6, a7, a8⟩ := raise_all u f
    refine ⟨by rw [a6, h1]; simp [h2], by rw [raise_tail, h1]; simp [h3], by rw [a7, h1]; simp [h4], by rw [a2, h5], by rw [a4, h6]⟩
  split
  · exact key s _ p h rfl rfl rfl rfl rfl
  · split
    · simp [h]
    · unfold State.creepCount
      simp only [h]
      split
      · exact key _ _ p.creepOn rfl rfl rfl rfl rfl rfl
      · simp [Placement.creepOn]

end Sys2Proof.Machine
end

