-- ==== Sys2Proof/Laws/TimersFrames.lean ====
section
/-! SUPPORT. Which blocks each operation of Machine/Timers.lean leaves as they are; later proofs cite these lemmas and do not unfold the operation. -/
namespace Sys2Proof.Machine

open Sys2Proof

set_option linter.unusedTactic false
set_option linter.unreachableTactic false

/-- `State.listenServed` changes at most mbu, dpt, txq. -/
@[simp] theorem State.listenServed_frame (s : State) :
    s.listenServed.inReset = s.inReset ∧ s.listenServed.opr = s.opr ∧ s.listenServed.ctu = s.ctu ∧
    s.listenServed.liu = s.liu ∧ s.listenServed.rte = s.rte ∧ s.listenServed.mou = s.mou ∧
    s.listenServed.pos = s.pos ∧ s.listenServed.toc = s.toc ∧ s.listenServed.pending = s.pending := by
  unfold State.listenServed
  try dsimp only
  repeat' split
  all_goals simp

/-- `State.expirePeer` changes at most mbu, dpt, txq. -/
@[simp] theorem State.expirePeer_frame (s : State) (k : Station) (p : Peer) :
    (s.expirePeer k p).inReset = s.inReset ∧ (s.expirePeer k p).opr = s.opr ∧ (s.expirePeer k p).ctu = s.ctu ∧
    (s.expirePeer k p).liu = s.liu ∧ (s.expirePeer k p).rte = s.rte ∧ (s.expirePeer k p).mou = s.mou ∧
    (s.expirePeer k p).pos = s.pos ∧ (s.expirePeer k p).toc = s.toc ∧ (s.expirePeer k p).pending = s.pending := by
  unfold State.expirePeer
  try dsimp only
  repeat' split
  all_goals simp

/-- `State.keepLapse` changes at most rte, pos, mou, dpt. -/
@[simp] theorem State.keepLapse_frame (s : State) :
    s.keepLapse.inReset = s.inReset ∧ s.keepLapse.opr = s.opr ∧ s.keepLapse.ctu = s.ctu ∧ s.keepLapse.liu = s.liu ∧
    s.keepLapse.txq = s.txq ∧ s.keepLapse.mbu = s.mbu ∧ s.keepLapse.toc = s.toc ∧
    s.keepLapse.pending = s.pending := by
  unfold State.keepLapse
  try dsimp only
  repeat' split
  all_goals simp

end Sys2Proof.Machine
end

