-- ==== Sys2Proof/Laws/FieldFrames.lean ====
section
/-! SUPPORT. Which blocks each operation of Machine/Field.lean leaves as they are; later proofs cite these lemmas and do not unfold the operation. -/
namespace Sys2Proof.Machine

open Sys2Proof

set_option linter.unusedTactic false
set_option linter.unreachableTactic false

/-- `State.setInputs` changes at most toc. -/
@[simp] theorem State.setInputs_frame (s : State) (p : Position) (i : Inputs) :
    (s.setInputs p i).inReset = s.inReset ∧ (s.setInputs p i).opr = s.opr ∧ (s.setInputs p i).ctu = s.ctu ∧
    (s.setInputs p i).liu = s.liu ∧ (s.setInputs p i).txq = s.txq ∧ (s.setInputs p i).mbu = s.mbu ∧
    (s.setInputs p i).rte = s.rte ∧ (s.setInputs p i).mou = s.mou ∧ (s.setInputs p i).pos = s.pos ∧
    (s.setInputs p i).dpt = s.dpt ∧ (s.setInputs p i).pending = s.pending := by
  unfold State.setInputs
  try dsimp only
  repeat' split
  all_goals simp

/-- `State.lockChange` changes at most toc, dpt, txq. -/
@[simp] theorem State.lockChange_frame (s : State) (p : Position) (lock : Points) (level : Bool) :
    (s.lockChange p lock level).inReset = s.inReset ∧ (s.lockChange p lock level).opr = s.opr ∧
    (s.lockChange p lock level).ctu = s.ctu ∧ (s.lockChange p lock level).liu = s.liu ∧
    (s.lockChange p lock level).mbu = s.mbu ∧ (s.lockChange p lock level).rte = s.rte ∧
    (s.lockChange p lock level).mou = s.mou ∧ (s.lockChange p lock level).pos = s.pos ∧
    (s.lockChange p lock level).pending = s.pending := by
  unfold State.lockChange
  try dsimp only
  repeat' split
  all_goals simp

/-- `State.occupancyChange` changes at most toc, dpt, txq. -/
@[simp] theorem State.occupancyChange_frame (s : State) (p : Position) (level : Bool) :
    (s.occupancyChange p level).inReset = s.inReset ∧ (s.occupancyChange p level).opr = s.opr ∧
    (s.occupancyChange p level).ctu = s.ctu ∧ (s.occupancyChange p level).liu = s.liu ∧
    (s.occupancyChange p level).mbu = s.mbu ∧ (s.occupancyChange p level).rte = s.rte ∧
    (s.occupancyChange p level).mou = s.mou ∧ (s.occupancyChange p level).pos = s.pos ∧
    (s.occupancyChange p level).pending = s.pending := by
  unfold State.occupancyChange
  try dsimp only
  repeat' split
  all_goals simp

end Sys2Proof.Machine
end

