-- ==== Sys2Proof/Laws/TakenFrames.lean ====
section
/-! SUPPORT. Which blocks each operation of Machine/Taken.lean leaves as they are; later proofs cite these lemmas and do not unfold the operation. -/
namespace Sys2Proof.Machine

open Sys2Proof

set_option linter.unusedTactic false
set_option linter.unreachableTactic false

/-- `State.sendTaken` changes at most txq, liu. -/
@[simp] theorem State.sendTaken_frame (s : State) (own : Bool) :
    (s.sendTaken own).1.inReset = s.inReset ∧
    (s.sendTaken own).1.opr = s.opr ∧
    (s.sendTaken own).1.ctu = s.ctu ∧
    (s.sendTaken own).1.mbu = s.mbu ∧
    (s.sendTaken own).1.rte = s.rte ∧
    (s.sendTaken own).1.mou = s.mou ∧
    (s.sendTaken own).1.pos = s.pos ∧
    (s.sendTaken own).1.toc = s.toc ∧
    (s.sendTaken own).1.dpt = s.dpt ∧
    (s.sendTaken own).1.pending = s.pending := by
  unfold State.sendTaken
  try dsimp only
  repeat' split
  all_goals simp

/-- `State.handReport` changes at most rte, pos, mou, dpt, txq, toc. -/
@[simp] theorem State.handReport_frame (s : State) (r : Report) (told : Option ClaimTold) :
    (s.handReport r told).inReset = s.inReset ∧ (s.handReport r told).opr = s.opr ∧
    (s.handReport r told).ctu = s.ctu ∧ (s.handReport r told).liu = s.liu ∧ (s.handReport r told).mbu = s.mbu ∧
    (s.handReport r told).pending = s.pending := by
  unfold State.handReport
  try dsimp only
  repeat' split
  all_goals simp

/-- `State.applyFrame` changes at most ctu, rte, pos, mou, dpt, txq, toc. -/
@[simp] theorem State.applyFrame_frame (s : State) (sender : Station) (content : Option Payload) (told : Option ClaimTold) :
    (s.applyFrame sender content told).inReset = s.inReset ∧ (s.applyFrame sender content told).opr = s.opr ∧
    (s.applyFrame sender content told).liu = s.liu ∧ (s.applyFrame sender content told).mbu = s.mbu ∧
    (s.applyFrame sender content told).pending = s.pending := by
  unfold State.applyFrame
  try dsimp only
  repeat' split
  all_goals simp

/-- `State.peersTaken` changes at most mbu, dpt. -/
@[simp] theorem State.peersTaken_frame (s : State) (tally : StationSet) (sender : Station) (heard : Option Payload) :
    (s.peersTaken tally sender heard).inReset = s.inReset ∧ (s.peersTaken tally sender heard).opr = s.opr ∧
    (s.peersTaken tally sender heard).ctu = s.ctu ∧ (s.peersTaken tally sender heard).liu = s.liu ∧
    (s.peersTaken tally sender heard).txq = s.txq ∧ (s.peersTaken tally sender heard).rte = s.rte ∧
    (s.peersTaken tally sender heard).mou = s.mou ∧ (s.peersTaken tally sender heard).pos = s.pos ∧
    (s.peersTaken tally sender heard).toc = s.toc ∧ (s.peersTaken tally sender heard).pending = s.pending := by
  unfold State.peersTaken
  try dsimp only
  repeat' split
  all_goals simp [foldl_keeps]

/-- `State.takenOnline` changes at most ctu, liu, txq, mbu, rte, mou, pos, toc, dpt. -/
@[simp] theorem State.takenOnline_frame (s : State) (own : Bool) (r : Received) (tally : StationSet) :
    (s.takenOnline own r tally).inReset = s.inReset ∧
    (s.takenOnline own r tally).opr = s.opr ∧
    (s.takenOnline own r tally).pending = s.pending := by
  unfold State.takenOnline
  try dsimp only
  repeat' split
  all_goals simp

/-- `State.hear` changes at most mbu, ctu. -/
@[simp] theorem State.hear_frame (s : State) (r : Received) :
    (s.hear r).inReset = s.inReset ∧ (s.hear r).opr = s.opr ∧ (s.hear r).liu = s.liu ∧ (s.hear r).txq = s.txq ∧
    (s.hear r).rte = s.rte ∧ (s.hear r).mou = s.mou ∧ (s.hear r).pos = s.pos ∧ (s.hear r).toc = s.toc ∧
    (s.hear r).dpt = s.dpt ∧ (s.hear r).pending = s.pending := by
  unfold State.hear
  try dsimp only
  repeat' split
  all_goals simp

/-- `State.takenListening` changes at most mbu, ctu, dpt, txq. -/
@[simp] theorem State.takenListening_frame (s : State) (r : Received) (tally : StationSet) :
    (s.takenListening r tally).inReset = s.inReset ∧ (s.takenListening r tally).opr = s.opr ∧
    (s.takenListening r tally).liu = s.liu ∧ (s.takenListening r tally).rte = s.rte ∧
    (s.takenListening r tally).mou = s.mou ∧ (s.takenListening r tally).pos = s.pos ∧
    (s.takenListening r tally).toc = s.toc ∧ (s.takenListening r tally).pending = s.pending := by
  unfold State.takenListening
  try dsimp only
  repeat' split
  all_goals simp

/-- `State.taken` changes at most ctu, liu, txq, mbu, rte, mou, pos, toc, dpt. -/
@[simp] theorem State.taken_frame (s : State) (line : LineFrame) (r : Received) (tally : StationSet) :
    (s.taken line r tally).inReset = s.inReset ∧ (s.taken line r tally).opr = s.opr ∧
    (s.taken line r tally).pending = s.pending := by
  unfold State.taken
  try dsimp only
  repeat' split
  all_goals simp

/-- `State.takenRow` changes at most ctu, liu, txq, mbu, rte, mou, pos, toc, dpt. -/
@[simp] theorem State.takenRow_frame (s : State) (k : Kind) (slots : StationSet) :
    (s.takenRow k slots).inReset = s.inReset ∧ (s.takenRow k slots).opr = s.opr ∧
    (s.takenRow k slots).pending = s.pending := by
  unfold State.takenRow
  try dsimp only
  repeat' split
  all_goals simp

end Sys2Proof.Machine
end

