-- ==== Sys2Proof/Laws/Membership.lean ====
section
/-! SUPPORT. Relisten (R96), the taken frames (R21, R56), the peer table (R99, R101) and the entry to ANNOUNCE (R92). -/
namespace Sys2Proof.Machine

open Sys2Proof

set_option linter.unusedSimpArgs false
set_option maxHeartbeats 1000000

/-- R126, R129: a relisten posts at most one more notice. -/
theorem tellRelisten_dpt (s : State) (h) : (s.tellRelisten h).dpt = s.dpt ∨ ∃ n, (s.tellRelisten h).dpt = s.dpt.post n := by
  unfold State.tellRelisten
  split
  · unfold State.routeRelisten; dsimp only; split
    · right; rw [halt_post]; rename_i h; rw [if_pos (by simpa [Rte.relisten] using h)]; simp
    all_goals simp
  · simp [State.turnoutRelisten, State.postIf]; split
    · right; simp
    · simp
  · simp

/-- R96: a relisten. -/
theorem relisten_all (s : State) (cause) (ho : s.online = true) :
  let t := s.relisten cause
  t.mbu.station = .listen ∧ t.mbu.cause = cause ∧ t.mbu.joinCount = s.mbu.joinCount ∧
      t.mbu.listen = some { timer := some (7 * s.bp), limit := 21 * s.bp, served := false, heard := false, agreed := false } ∧
      t.mbu.ownLease = none ∧ t.mbu.beacon = none ∧ t.mbu.lastConflict = 0 ∧
      (∀ k : Station, t.mbu.peers[k] =
        { presence := .absent, role := if k = s.me then s.mbu.peers[k].role else none, lease := none, foreign := false }) ∧
      t.ctu = clearTable s.opr.map ∧ t.txq.entries = [] ∧ t.txq.nextAge = s.txq.nextAge ∧
      t.liu.vetoRun = 0 ∧ t.liu.rejections = 0 ∧ t.liu.counted = none ∧
      (∀ l, t.liu.line = some l → l.participating = false) ∧
      (t.dpt = s.dpt.post (.link .listen cause) ∨ ∃ more, t.dpt = (s.dpt.post (.link .listen cause)).post more) := by
  intro t
  have ht : t = s.relisten cause := rfl
  clear_value t
  subst ht
  simp only [State.relisten, ho, if_true]
  and_intros
  · simp [State.enter, State.relistenMbu]
  · simp [State.enter, State.relistenMbu]
  · simp [State.enter, State.relistenMbu]
  · simp [State.enter, State.relistenMbu, State.listenStart, State.bp, State.option, Config.listenBP, Config.listenLimitBP]
  · simp [State.enter, State.relistenMbu]
  · simp [State.enter, State.relistenMbu]
  · simp [State.enter, State.relistenMbu]
  · intro k
    simp [State.enter, State.relistenMbu, peerAfterRelisten, State.me, Peer.reset]
    split <;> simp [*]
  · simp
  · simp [Txq.emptied]
  · simp [Txq.emptied]
  · simp [Liu.dropOut, Liu.clearCounts]
  · simp [Liu.dropOut, Liu.clearCounts]
  · simp [Liu.dropOut, Liu.clearCounts]
  · intro l; simp [Liu.dropOut, Liu.clearCounts]; rintro x hx rfl; rfl
  · rcases tellRelisten_dpt _ (holdCount s.ctu s.me) with h | ⟨n, h⟩
    · left; rw [h]; simp [State.enter]
    · right; refine ⟨n, ?_⟩; rw [h]; simp [State.enter]

/-- Every taken row is one operation. -/
theorem exec_taken (s : State) (k slots) : exec (takenInstr k slots) s = live (State.takenRow k slots) s := by cases k <;> rfl

/-- R54, R60: when a taken row takes its frame. -/
theorem takenRow_eq (s : State) (k slots l r) (hp : s.liu.phase = .slots) (hl : s.liu.line = some l) (hrec : l.received = some r)
   (hk : r.ofKind k = true) (hv : l.veto = some false) (hq : s.option (·.quorum) ≤ stationCount (slots &&& s.roster))
   (ho : s.online = true ∨ s.mbu.station = .listen) : State.takenRow k slots s = s.taken l r (slots &&& s.roster) := by
  unfold State.takenRow
  have h1 : s.takes l slots = true := by simp [State.takes, hp, hv, State.quorate, State.tallySet, hq]
  have h2 : (s.online || s.mbu.station == .listen) = true := by simpa using ho
  simp only [hl, hrec, h1, hk, h2, State.tallySet]; simp

/-- R57, R59: the line unit after a taken frame. -/
theorem takenOnline_liu (s : State) (own r tally) : (s.takenOnline own r tally).liu = (s.sendTaken own).1.liu := by
  unfold State.takenOnline
  dsimp only
  repeat' split
  all_goals simp

/-- R101, R103: a content that passed every check is what the peer table reads. -/
theorem heard_content (roster : StationSet) (r : Received) (p : Payload) (hc : r.content = some p) : r.heard roster = some p := by
  simp [Received.heard, hc]

/-- R101, R103: without one, the part that stands under a good CRC is. -/
theorem heard_part (roster : StationSet) (r : Received) (hc : r.content = none) (hg : frameCrcGood r.frame = true) :
    r.heard roster = peerPart roster r.frame := by
  simp [Received.heard, hc, hg]

/-- R88: a listening station's peer table reads the same of every frame but a miss. -/
theorem heardListening_eq (roster : StationSet) (r : Received) (h : r.cls ≠ .faulty) : r.heardListening roster = r.heard roster := by
  unfold Received.heardListening
  cases hk : r.cls <;> simp_all

/-- R21: the table after a taken frame. -/
theorem takenOnline_ctu (s : State) (own r p tally) (hc : r.content = some p) :
    (s.takenOnline own r tally).ctu = applyPayload s.opr.map s.ctu (frameStation r.frame) p := by
  unfold State.takenOnline
  rw [hc]
  dsimp only
  repeat' split
  all_goals simp [State.applyFrame]

/-- R56: a taken frame in ANNOUNCE and ACTIVE. -/
theorem taken_online (s : State) (l : LineFrame) (r : Received) (p : Payload) (slots)
    (hr : s.inReset = false) (ho : s.online = true) (hp : s.liu.phase = .slots) (hl : s.liu.line = some l) (hrec : l.received = some r)
    (hc : r.content = some p) (hv : l.veto = some false) (hq : s.option (·.quorum) ≤ stationCount (slots &&& s.roster))
    (hme : frameStation r.frame = s.me → l.own.isSome) :
   exec (takenInstr p.kind slots) s = .next ((s.seekIdle 0).takenOnline l.own.isSome r (slots &&& s.roster)) := by
  rw [exec_taken, live_next _ _ hr]
  have hk : r.ofKind p.kind = true := by simp [Received.ofKind, Received.kind, hc]
  rw [takenRow_eq s _ slots l r hp hl hrec hk hv hq (Or.inl ho)]
  unfold State.taken
  rw [if_neg (by rintro ⟨h1, h2⟩; have := hme h1; cases hlo : l.own <;> simp_all)]
  simp only [ho, if_true]

/-- R99: a station seen changes its own record alone. -/
theorem see_listen (s : State) (k) : (s.see k).mbu.listen = s.mbu.listen ∧ (s.see k).mbu.station = s.mbu.station ∧ (s.see k).mbu.ownLease = s.mbu.ownLease ∧ (s.see k).mbu.beacon = s.mbu.beacon ∧ (s.see k).mbu.sighting = s.mbu.sighting ∧ (s.see k).mbu.joinCount = s.mbu.joinCount ∧ (s.see k).mbu.cause = s.mbu.cause := by
  simp [State.see, State.setPeer]

/-- R101: a station lapsed changes its own record alone. -/
theorem lapse_listen (s : State) (k) : (s.lapse k).mbu.listen = s.mbu.listen ∧ (s.lapse k).mbu.station = s.mbu.station ∧ (s.lapse k).mbu.ownLease = s.mbu.ownLease ∧ (s.lapse k).mbu.beacon = s.mbu.beacon ∧ (s.lapse k).mbu.sighting = s.mbu.sighting ∧ (s.lapse k).mbu.joinCount = s.mbu.joinCount ∧ (s.lapse k).mbu.cause = s.mbu.cause := by
  unfold State.lapse; split <;> simp [State.setPeer]

/-- What a taken frame leaves of the membership unit beside the peer table. -/
def membershipCore (s : State) :=
  (s.mbu.listen, s.mbu.station, s.mbu.ownLease, s.mbu.beacon, s.mbu.joinCount, s.mbu.cause)

/-- R91: a sighting keeps it. -/
theorem sightingTaken_core (s : State) (b) : membershipCore (s.sightingTaken b) = membershipCore s := by
  unfold State.sightingTaken; dsimp only; repeat' split
  all_goals simp [membershipCore, State.setPeer, State.mapConflict]

/-- R99, R101, R103: the peer table keeps it. -/
theorem peersTaken_core (s : State) (t k c) : membershipCore (s.peersTaken t k c) = membershipCore s := by
  unfold State.peersTaken
  simp only [sightingTaken_core]
  have h1 : ∀ (l : List Station) s, membershipCore (l.foldl State.see s) = membershipCore s := foldl_keeps _ _ (fun s a => by simp [membershipCore, see_listen])
  have h2 : ∀ (l : List Station) s, membershipCore (l.foldl State.lapse s) = membershipCore s := foldl_keeps _ _ (fun s a => by simp [membershipCore, lapse_listen])
  cases c with
  | none => exact h1 _ _
  | some p => 
    cases p <;> simp only [State.peerContent, h1, h2]
    simp [State.recordRole, membershipCore, State.setPeer]
    have := h1 (s.seenSet t k) s
    simp [membershipCore] at this; exact this

/-- R92: the membership unit at the entry to ANNOUNCE. -/
theorem announce_mbu (s : State) : s.announce.mbu = { s.mbu with station := .announce, cause := .listenDone, listen := none, beacon := some s.bp } := by
  unfold State.announce; simp
  simp [State.enter, State.bp, State.option]

end Sys2Proof.Machine
end

