-- ==== Sys2Proof/Laws/PortFrames.lean ====
section
/-! SUPPORT. Which blocks each operation of Machine/Port.lean leaves as they are; later proofs cite these lemmas and do not unfold the operation. -/
namespace Sys2Proof.Machine

open Sys2Proof

set_option linter.unusedTactic false
set_option linter.unreachableTactic false

/-- `State.answer` changes at most dpt. -/
@[simp] theorem State.answer_frame (s : State) (r : Reply) :
    (s.answer r).inReset = s.inReset ∧ (s.answer r).opr = s.opr ∧ (s.answer r).ctu = s.ctu ∧
    (s.answer r).liu = s.liu ∧ (s.answer r).txq = s.txq ∧ (s.answer r).mbu = s.mbu ∧ (s.answer r).rte = s.rte ∧
    (s.answer r).mou = s.mou ∧ (s.answer r).pos = s.pos ∧ (s.answer r).toc = s.toc ∧
    (s.answer r).pending = s.pending := by
  unfold State.answer
  try dsimp only
  repeat' split
  all_goals simp

/-- `State.busy` changes at most dpt. -/
@[simp] theorem State.busy_frame (s : State) :
    s.busy.inReset = s.inReset ∧ s.busy.opr = s.opr ∧ s.busy.ctu = s.ctu ∧ s.busy.liu = s.liu ∧ s.busy.txq = s.txq ∧
    s.busy.mbu = s.mbu ∧ s.busy.rte = s.rte ∧ s.busy.mou = s.mou ∧ s.busy.pos = s.pos ∧ s.busy.toc = s.toc ∧
    s.busy.pending = s.pending := by
  unfold State.busy
  try dsimp only
  repeat' split
  all_goals simp

/-- `State.relocate` changes at most txq, rte, pos. -/
@[simp] theorem State.relocate_frame (s : State) (head : Seg) (tail : Option Seg) (offset : Nat) :
    (s.relocate head tail offset).inReset = s.inReset ∧ (s.relocate head tail offset).opr = s.opr ∧
    (s.relocate head tail offset).ctu = s.ctu ∧ (s.relocate head tail offset).liu = s.liu ∧
    (s.relocate head tail offset).mbu = s.mbu ∧ (s.relocate head tail offset).mou = s.mou ∧
    (s.relocate head tail offset).toc = s.toc ∧ (s.relocate head tail offset).dpt = s.dpt ∧
    (s.relocate head tail offset).pending = s.pending := by
  unfold State.relocate
  try dsimp only
  repeat' split
  all_goals simp

/-- `State.cutRoute` changes at most txq, rte. -/
@[simp] theorem State.cutRoute_frame (s : State) :
    s.cutRoute.inReset = s.inReset ∧ s.cutRoute.opr = s.opr ∧ s.cutRoute.ctu = s.ctu ∧ s.cutRoute.liu = s.liu ∧
    s.cutRoute.mbu = s.mbu ∧ s.cutRoute.mou = s.mou ∧ s.cutRoute.pos = s.pos ∧ s.cutRoute.toc = s.toc ∧
    s.cutRoute.dpt = s.dpt ∧ s.cutRoute.pending = s.pending := by
  unfold State.cutRoute
  try dsimp only
  repeat' split
  all_goals simp

/-- `State.cancel` changes at most txq, rte, pos, mou, dpt. -/
@[simp] theorem State.cancel_frame (s : State) :
    s.cancel.inReset = s.inReset ∧ s.cancel.opr = s.opr ∧ s.cancel.ctu = s.ctu ∧ s.cancel.liu = s.liu ∧
    s.cancel.mbu = s.mbu ∧ s.cancel.toc = s.toc ∧ s.cancel.pending = s.pending := by
  unfold State.cancel
  try dsimp only
  repeat' split
  all_goals simp

/-- `State.commit` changes at most rte, pos, mou, dpt. -/
@[simp] theorem State.commit_frame (s : State) (o : Offer) :
    (s.commit o).inReset = s.inReset ∧ (s.commit o).opr = s.opr ∧ (s.commit o).ctu = s.ctu ∧
    (s.commit o).liu = s.liu ∧ (s.commit o).txq = s.txq ∧ (s.commit o).mbu = s.mbu ∧ (s.commit o).toc = s.toc ∧
    (s.commit o).pending = s.pending := by
  unfold State.commit
  try dsimp only
  repeat' split
  all_goals simp

/-- `State.uncommit` changes at most rte. -/
@[simp] theorem State.uncommit_frame (s : State) :
    s.uncommit.inReset = s.inReset ∧ s.uncommit.opr = s.opr ∧ s.uncommit.ctu = s.ctu ∧ s.uncommit.liu = s.liu ∧
    s.uncommit.txq = s.txq ∧ s.uncommit.mbu = s.mbu ∧ s.uncommit.mou = s.mou ∧ s.uncommit.pos = s.pos ∧
    s.uncommit.toc = s.toc ∧ s.uncommit.dpt = s.dpt ∧ s.uncommit.pending = s.pending := by
  unfold State.uncommit
  try dsimp only
  repeat' split
  all_goals simp

/-- `State.resumeEngine` changes at most rte, pos, mou. -/
@[simp] theorem State.resumeEngine_frame (s : State) :
    s.resumeEngine.inReset = s.inReset ∧ s.resumeEngine.opr = s.opr ∧ s.resumeEngine.ctu = s.ctu ∧
    s.resumeEngine.liu = s.liu ∧ s.resumeEngine.txq = s.txq ∧ s.resumeEngine.mbu = s.mbu ∧
    s.resumeEngine.toc = s.toc ∧ s.resumeEngine.dpt = s.dpt ∧ s.resumeEngine.pending = s.pending := by
  unfold State.resumeEngine
  try dsimp only
  repeat' split
  all_goals simp

/-- `State.resume` changes at most rte, pos, mou, dpt. -/
@[simp] theorem State.resume_frame (s : State) :
    s.resume.inReset = s.inReset ∧ s.resume.opr = s.opr ∧ s.resume.ctu = s.ctu ∧ s.resume.liu = s.liu ∧
    s.resume.txq = s.txq ∧ s.resume.mbu = s.mbu ∧ s.resume.toc = s.toc ∧ s.resume.pending = s.pending := by
  unfold State.resume
  try dsimp only
  repeat' split
  all_goals simp

/-- `State.dock` changes at most txq, rte, pos, mou, dpt. -/
@[simp] theorem State.dock_frame (s : State) :
    s.dock.inReset = s.inReset ∧ s.dock.opr = s.opr ∧ s.dock.ctu = s.ctu ∧ s.dock.liu = s.liu ∧ s.dock.mbu = s.mbu ∧
    s.dock.toc = s.toc ∧ s.dock.pending = s.pending := by
  unfold State.dock
  try dsimp only
  repeat' split
  all_goals simp

/-- `State.restartKeep` changes at most mou. -/
@[simp] theorem State.restartKeep_frame (s : State) :
    s.restartKeep.inReset = s.inReset ∧ s.restartKeep.opr = s.opr ∧ s.restartKeep.ctu = s.ctu ∧
    s.restartKeep.liu = s.liu ∧ s.restartKeep.txq = s.txq ∧ s.restartKeep.mbu = s.mbu ∧ s.restartKeep.rte = s.rte ∧
    s.restartKeep.pos = s.pos ∧ s.restartKeep.toc = s.toc ∧ s.restartKeep.dpt = s.dpt ∧
    s.restartKeep.pending = s.pending := by
  unfold State.restartKeep
  try dsimp only
  repeat' split
  all_goals simp

/-- `State.withdrawPossession` changes at most txq, toc. -/
@[simp] theorem State.withdrawPossession_frame (s : State) :
    s.withdrawPossession.inReset = s.inReset ∧ s.withdrawPossession.opr = s.opr ∧ s.withdrawPossession.ctu = s.ctu ∧
    s.withdrawPossession.liu = s.liu ∧ s.withdrawPossession.mbu = s.mbu ∧ s.withdrawPossession.rte = s.rte ∧
    s.withdrawPossession.mou = s.mou ∧ s.withdrawPossession.pos = s.pos ∧ s.withdrawPossession.dpt = s.dpt ∧
    s.withdrawPossession.pending = s.pending := by
  unfold State.withdrawPossession
  try dsimp only
  repeat' split
  all_goals simp

/-- `State.unpossess` changes at most txq, toc. -/
@[simp] theorem State.unpossess_frame (s : State) :
    s.unpossess.inReset = s.inReset ∧ s.unpossess.opr = s.opr ∧ s.unpossess.ctu = s.ctu ∧ s.unpossess.liu = s.liu ∧
    s.unpossess.mbu = s.mbu ∧ s.unpossess.rte = s.rte ∧ s.unpossess.mou = s.mou ∧ s.unpossess.pos = s.pos ∧
    s.unpossess.dpt = s.dpt ∧ s.unpossess.pending = s.pending := by
  unfold State.unpossess
  try dsimp only
  repeat' split
  all_goals simp

/-- `State.locate` changes at most txq, rte, pos, mou, dpt. -/
@[simp] theorem State.locate_frame (s : State) (head : Seg) (tail : Option Seg) (offset : Nat) :
    (State.locate head tail offset s).inReset = s.inReset ∧ (State.locate head tail offset s).opr = s.opr ∧
    (State.locate head tail offset s).ctu = s.ctu ∧ (State.locate head tail offset s).liu = s.liu ∧
    (State.locate head tail offset s).mbu = s.mbu ∧ (State.locate head tail offset s).toc = s.toc ∧
    (State.locate head tail offset s).pending = s.pending := by
  unfold State.locate
  try dsimp only
  repeat' split
  all_goals simp

/-- `State.loadSteps` changes at most txq, rte, pos, mou, dpt. -/
@[simp] theorem State.loadSteps_frame (s : State) (steps : List Step) :
    (State.loadSteps steps s).inReset = s.inReset ∧ (State.loadSteps steps s).opr = s.opr ∧
    (State.loadSteps steps s).ctu = s.ctu ∧ (State.loadSteps steps s).liu = s.liu ∧
    (State.loadSteps steps s).mbu = s.mbu ∧ (State.loadSteps steps s).toc = s.toc ∧
    (State.loadSteps steps s).pending = s.pending := by
  unfold State.loadSteps
  try dsimp only
  repeat' split
  all_goals simp

/-- `State.possess` changes at most txq, toc. -/
@[simp] theorem State.possess_frame (s : State) (segs : List Seg) :
    (State.possess segs s).inReset = s.inReset ∧ (State.possess segs s).opr = s.opr ∧
    (State.possess segs s).ctu = s.ctu ∧ (State.possess segs s).liu = s.liu ∧ (State.possess segs s).mbu = s.mbu ∧
    (State.possess segs s).rte = s.rte ∧ (State.possess segs s).mou = s.mou ∧ (State.possess segs s).pos = s.pos ∧
    (State.possess segs s).dpt = s.dpt ∧ (State.possess segs s).pending = s.pending := by
  unfold State.possess
  try dsimp only
  repeat' split
  all_goals simp

/-- `State.throwTo` changes at most toc, dpt, txq. -/
@[simp] theorem State.throwTo_frame (s : State) (seg : Seg) (p : Points) :
    (State.throwTo seg p s).inReset = s.inReset ∧ (State.throwTo seg p s).opr = s.opr ∧
    (State.throwTo seg p s).ctu = s.ctu ∧ (State.throwTo seg p s).liu = s.liu ∧ (State.throwTo seg p s).mbu = s.mbu ∧
    (State.throwTo seg p s).rte = s.rte ∧ (State.throwTo seg p s).mou = s.mou ∧ (State.throwTo seg p s).pos = s.pos ∧
    (State.throwTo seg p s).pending = s.pending := by
  unfold State.throwTo
  try dsimp only
  repeat' split
  all_goals simp

end Sys2Proof.Machine
end

