-- ==== Sys2Proof/Laws/Port.lean ====
section
/-! SUPPORT. The drive port: segment bytes (R180), a command that passes the tests (R182). -/
namespace Sys2Proof.Machine

open Sys2Proof

set_option linter.unusedSimpArgs false

/-- R180: a segment byte is read back. -/
theorem seg_ok : ∀ h : Seg, isSegByte (segByte h) = true ∧ Fin.ofNat 64 (segByte h).toNat = h ∧ segOfByte (segByte h) = some h := by decide +kernel

/-- R180: so is a list. -/
theorem segs_ok (l : List Seg) : segsOfBytes (l.map segByte) = l ∧ (l.map segByte).all isSegByte = true := by
  constructor
  · unfold segsOfBytes; rw [List.filterMap_map]
    have : (segOfByte ∘ segByte) = some := by funext h; exact (seg_ok h).2.2
    rw [this]; exact List.filterMap_some
  · simp; intro a _; exact (seg_ok a).1

/-- R182: a command that no test stops. -/
theorem transact_ok (t : PortTests) (act) (s : State) (h1 : s.mbu.station ≠ .start) (h2 : s.portRefusal t = none) :
   State.transact t act s = (act s).1.answer (act s).2 := by
  unfold State.transact; rw [if_neg h1, h2]

/-- R182: the tests pass at a station of the role. -/
theorem refusal_role (s : State) (ro form range) (hf : form = true) (hr : range = true) (hs : s.mbu.station ≠ .configFault) (hro : s.role = some ro) :
   s.portRefusal (.ofRole ro form range) = none := by
  simp [State.portRefusal, PortTests.ofRole, hf, hr, hs, hro]

/-- R182: a carriage command in its states. -/
theorem exec_carriage (s : State) (act : State → State × Reply) (hr : s.inReset = false) (hro : s.role = some .carriage)
   (h1 : s.mbu.station ≠ .start) (h2 : s.mbu.station ≠ .configFault) :
   live (State.transact (.ofRole .carriage true true) act) s = .next ((act s).1.answer (act s).2) := by
  rw [live_next _ _ hr, transact_ok _ _ _ h1 (refusal_role _ _ _ _ rfl rfl h2 hro)]

/-- R182 test 5 passes. -/
theorem judge_none (s : State) (f) : s.judge none f = (f s, .done []) := rfl

end Sys2Proof.Machine
end

