-- ==== Sys2Proof/Laws/Turnouts.lean ====
section
/-! SUPPORT. The turnout controller: records (R163), inputs (R164), lie reports (R175) and the end of a throw (R172). -/
namespace Sys2Proof.Machine

open Sys2Proof

set_option linter.unusedSimpArgs false

/-- Two changes of one record. -/
theorem modify_modify (s : State) (seg) (f g : Record → Record) (hf : ∀ r, (f r).seg = r.seg) :
   (s.modifyRecord seg f).modifyRecord seg g = s.modifyRecord seg (fun r => g (f r)) := by
  have : ((fun r => if r.seg = seg then g r else r) ∘ fun r => if r.seg = seg then f r else r) = fun r => if r.seg = seg then g (f r) else r := by
    funext r; by_cases h : r.seg = seg <;> simp [h, hf]
  simp [State.modifyRecord, Toc.modify, this]

/-- R166, R175: a lie state change with its notice and its LIE. -/
theorem reportLie_eq (s : State) (seg lie cause answer) : s.reportLie seg lie cause answer =
   ((s.modifyRecord seg fun r => { r with lie := lie }).post (.throwing seg lie (lieRequest cause answer).1)).txRequest (.lie seg) (.lie (lieRequest cause answer).1 (lieRequest cause answer).2) := rfl

/-- R172: the end of a throw. -/
theorem stopThrow_eq (s : State) (r lie cause) : s.stopThrow r lie cause =
   ((s.modifyRecord r.seg fun q => { q with motor := .off, throwTimer := none, target := none, answer := none, lie := lie }).post (.throwing r.seg lie (lieRequest cause r.answer).1)).txRequest (.lie r.seg) (.lie (lieRequest cause r.answer).1 (lieRequest cause r.answer).2) := by
  unfold State.stopThrow
  rw [reportLie_eq, modify_modify _ _ Record.rest _ (fun _ => rfl)]; rfl

/-- R164: the inputs of a position. -/
theorem inputsOf_at (s : State) (p : Position) (r : Record) (i) (hp : s.position r.seg = some p) : (s.setInputs p i).inputsOf r.seg = i := by
  have h : (s.setInputs p i).position r.seg = s.position r.seg := by simp [State.position, State.owned]
  simp only [State.inputsOf, h, hp]
  simp [State.setInputs]

/-- R164: one lock level changed. -/
theorem lock_set (i : Inputs) (l : Points) (b : Bool) : ((i.setLock l b).lock l).level = b ∧ ((i.setLock l b).lock (pointsOther l)).level = (i.lock (pointsOther l)).level := by
  cases l <;> simp [Inputs.setLock, Inputs.lock, Input.settledAt, pointsOther]

/-- R175: what is requested with a cause that answers nobody. -/
theorem lieReq_tagless (c : LieCause) (a : Option Answer) (h : c ≠ .done ∧ c ≠ .confirmed ∧ c ≠ .report) : lieRequest c a = (c, a.filter fun a => a.tag.isSome) := by
  cases a with
  | none => rfl
  | some a =>
    cases ht : a.tag with
    | none => simp [lieRequest, ht, h, Option.filter]
    | some t => simp [lieRequest, ht, Option.filter]

end Sys2Proof.Machine
end

