-- ==== Sys2Proof/Tests/Slice0.lean ====
section
/-! SUPPORT. The author's own tests: ill-formed operands, worked examples of the data book, and for every statement with hypotheses a
state and operands that meet them, clause by clause. -/
namespace Sys2Proof.Tests

open Sys2Proof Sys2Proof.Machine

set_option Elab.async false

/-! ## Ill-formed operands (WellFormed) -/

/-- A frame whose length field says two bytes and whose payload has one. -/
def shortFrame : Frame :=
  { urgency := 3, sender := 4, kind := 3, length := 2, fingerprint := 0, digest := 0, payload := [1], crc := 0 }

theorem test_short_payload_is_ill_formed : (Instr.frameClassify shortFrame).wellFormed = false := by decide

theorem test_slots_0_and_31_do_not_exist :
    [Instr.frameRejected 0x80000000#32, .beaconTaken 0x80000000#32, .claimTaken 0x80000000#32, .reclaimTaken 1#32,
      .releaseTaken 1#32, .lapseTaken 1#32, .clearTaken 1#32, .guardTaken 1#32, .lieTaken 1#32].all
      (fun i => !i.wellFormed) = true ∧
    (Instr.frameRejected 0x7FFFFFFE#32).wellFormed = true := by decide

theorem test_peers_0_and_31_do_not_exist :
    (Instr.remoteLeaseExpiry 0).wellFormed = false ∧ (Instr.remoteLeaseExpiry 31).wellFormed = false ∧
      (Instr.remoteLeaseExpiry 30).wellFormed = true := by decide

theorem test_step_16_does_not_exist :
    (Instr.lieWaitExpiry 16).wellFormed = false ∧ (Instr.lieWaitExpiry 15).wellFormed = true := by decide

theorem test_tag_without_start_bit_is_ill_formed : (Instr.tagReceived true 0x79F0#16 true).wellFormed = false := by decide

theorem test_a_command_is_no_invalid_message :
    (Instr.invalidCommand [0x00, 0x00]).wellFormed = false ∧ (Instr.invalidCommand [0x00]).wellFormed = true := by decide

theorem test_lists_of_segments_have_a_size :
    (Instr.clearCommand []).wellFormed = false ∧ (Instr.clearCommand (List.replicate 13 1)).wellFormed = false ∧
      (Instr.loadRoute []).wellFormed = false ∧ (Instr.loadRoute (List.replicate 17 1)).wellFormed = false ∧
      (Instr.possess []).wellFormed = false ∧ (Instr.possess (List.replicate 7 1)).wellFormed = false := by decide

/-! ## Worked examples of the data book -/

/-- The CRC-16 with initial value FFFFh over the nine ASCII digits is 29B1h. -/
theorem test_crc_of_the_digits : crcBytes [0x31, 0x32, 0x33, 0x34, 0x35, 0x36, 0x37, 0x38, 0x39] = 0x29B1#16 := by
  decide +kernel

/-- Chapter 8: the four tag words of the example are good, 7E0Bh is bad. -/
theorem test_tag_words :
    [0x79F0#16, 0x7E0A#16, 0x8214#16, 0x862F#16].map (fun b => (tagBad b true, tagFrom b, tagTo b)) =
      [(false, 30, 31), (false, 31, 32), (false, 32, 33), (false, 33, 34)] ∧
    tagBad 0x7E0B#16 true = true ∧ tagBad 0x79F0#16 false = true := by decide +kernel

/-- Chapter 3: the header bits of a RELEASE of station 4 with one segment. -/
theorem test_frame_header_bits :
    (frameBits (sealFrame 4 0 0 (.release [10]))).take 18 =
      [false, false, true, true, false, false, true, false, false, false, false, true, true, false, false, false, true, false] ∧
    (frameBits (sealFrame 4 0 0 (.release [10]))).length = 82 := by decide +kernel

/-- Chapter 3: after six identical bits the sender inserts one of the other level. -/
theorem test_stuff_bit :
    stuffFrom 0 true (List.replicate 7 false) =
      [false, false, false, false, false, false, true, false] ∧
    unstuff (List.replicate 7 false) = none := by decide

/-- Chapter 10: the messages of five commands. -/
theorem test_command_messages :
    commandOf [0x01, 0x00] = some .notice ∧ commandOf [0x13, 0x01, 0x0C] = some (.take 12) ∧
      commandOf [0x10, 0x05, 0x22, 0x00, 0x00, 0x32, 0x21] = some (.locate 0x22 50 (some 0x21)) ∧
      commandOf [0x16, 0x00, 0xAA] = some .keep ∧ commandOf [0x13, 0x01] = none ∧ commandOf [0x13, 0x00] = none := by decide

/-- Chapter 10: what DDO shows of a reply, and after it. -/
theorem test_reply_on_ddo :
    (List.range 4).map (Reply.onDdo { status := .stale, data := [13] }) = [4, 1, 13, 0xFF] := by decide

/-- Chapter 1: the map of the example. -/
def smallMap : TrackMap :=
  { segs := tab fun i =>
      match i.val with
      | 1 => .pad 400 (some ⟨2, 0⟩)
      | 2 => .plain 1200 (some ⟨1, 0⟩) (some ⟨3, 0⟩) false
      | 3 => .turnout 360 (some ⟨2, 1⟩) (some ⟨4, 0⟩) (some ⟨6, 0⟩) 21
      | 4 => .plain 900 (some ⟨3, 1⟩) (some ⟨5, 0⟩) true
      | 5 => .pad 400 (some ⟨4, 1⟩)
      | 6 => .plain 1500 (some ⟨3, 2⟩) (some ⟨7, 0⟩) false
      | 7 => .pad 400 (some ⟨6, 1⟩)
      | _ => .absent
    fingerprint := 0x1234#16
    owned := [] }

/-- A ring of two segments linked at both ends: they meet twice. -/
def ringMap : TrackMap :=
  { smallMap with
    segs := tab fun i =>
      match i.val with
      | 1 => .plain 400 (some ⟨2, 0⟩) (some ⟨2, 1⟩) true
      | 2 => .plain 1200 (some ⟨1, 0⟩) (some ⟨1, 1⟩) true
      | _ => .absent }

/-- Chapter 1: the steps of the example's route, and its distances. -/
theorem test_route_of_the_example :
    (resolveRoute (some smallMap) (some 1) [1, 2, 3, 6, 7]).toOption.map
        (List.map fun st => (st.entryEnd, st.exitEnd, st.required)) =
      some [(none, some 0, none), (some 0, some 1, none), (some 0, some 2, some .reverse), (some 0, some 1, none),
            (some 0, none, none)] ∧
    (resolveRoute (some smallMap) (some 1) [1, 2, 3, 6, 7]).toOption.map
        (fun route => [2, 4].map (distanceTo (some smallMap) ⟨1, none, 100, none, 0⟩ route 0)) = some [1860, 3760] := by
  decide +kernel

/-- The reason a route fails with. -/
def routeFault (head : Seg) (segs : List Seg) : Option Reason :=
  match resolveRoute (some smallMap) (some head) segs with
  | .error r => some r
  | .ok _ => none

/-- Chapter 1: the routes of the example that fail. -/
theorem test_route_faults :
    routeFault 4 [4, 3, 6] = some .routePassage ∧ routeFault 2 [2, 1, 2] = some .routeRepeat ∧
      routeFault 1 [1, 2, 4] = some .routeGap ∧ routeFault 1 [1] = some .routeSize ∧
      routeFault 2 [1, 2] = some .routeStart ∧ routeFault 2 [2, 3] = some .routeFinal ∧
      routeFault 2 [2, 9] = some .routeUndefined := by decide +kernel

/-! ## States of the examples of chapters 7 to 9 -/

/-- The map of chapters 6 to 9: pad 30, plain 31 to 33, turnout 34 of station 22, plain 35 to 40, pad 41. -/
def exampleMap (owned : List Seg) : TrackMap :=
  { segs := tab fun i =>
      match i.val with
      | 30 => .pad 400 (some ⟨31, 0⟩)
      | 31 => .plain 900 (some ⟨30, 0⟩) (some ⟨32, 0⟩) false
      | 32 => .plain 900 (some ⟨31, 1⟩) (some ⟨33, 0⟩) false
      | 33 => .plain 600 (some ⟨32, 1⟩) (some ⟨34, 0⟩) true
      | 34 => .turnout 360 (some ⟨33, 1⟩) none (some ⟨35, 0⟩) 22
      | 35 => .plain 1000 (some ⟨34, 2⟩) (some ⟨36, 0⟩) false
      | 36 => .plain 1000 (some ⟨35, 1⟩) none true
      | _ => .absent
    fingerprint := 0x1234#16
    owned := owned }

/-- The options of a station of the example, with 6, 9 and 22 in the roster. -/
def exampleOptions (station : Station) (role : Role) : Options :=
  { station := station, role := role, roster := stationOne 6 ||| stationOne 9 ||| stationOne 22, quorum := 2, bitRate := 2
    bpCode := 4, carriageLength := 350, claimAhead := 6, keepCode := 5, lieWait := 3, overrunMargin := 200, creepLimit := 40
    t1 := 300, t2 := 1200, t3 := 3000, l0 := 3, l1 := 6, l2 := 10, odoFilter := .short, staggerCode := 5, throwTime := 6 }

/-- An ACTIVE station on an idle line. -/
def activeStation (o : Options) (m : TrackMap) : State :=
  { State.reset with
    opr := { reading := false, failures := 0, fault := none, options := some o, map := some m }
    ctu := clearTable (some m)
    liu := { State.reset.liu with phase := .idle, recessive := 12 }
    mbu := { State.reset.mbu with station := .active, cause := .announceTaken, ownLease := some 800, beacon := some 200 }
    toc := { State.reset.toc with settled := true } }

/-- Carriage 6, ACTIVE and not placed. -/
def carriage : State := activeStation (exampleOptions 6 .carriage) (exampleMap [])

/-- Wayside 22, ACTIVE, turnout 34 locked NORMAL. -/
def wayside : State :=
  let s := activeStation (exampleOptions 22 .wayside) (exampleMap [34])
  s.setToc { s.toc with
    records := [{ seg := 34, lie := .normal, target := none, answer := none, followOn := none, throwTimer := none, motor := .off }]
    inputs := tab fun _ => { normalLock := .settledAt true, reverseLock := .settledAt false, occupancy := .settledAt false } }

/-- The wayside with other inputs of turnout 34, another lie and another target. -/
def waysideAt (normal reverse occupied : Bool) (lie : Lie) (target : Option Points) : State :=
  wayside.setToc { wayside.toc with
    records := wayside.toc.records.map fun r => { r with lie := lie, target := target }
    inputs := tab fun _ =>
      { normalLock := .settledAt normal, reverseLock := .settledAt reverse, occupancy := .settledAt occupied } }

/-- A state in another station state. -/
def at_ (s : State) (station : StationState) : State := s.setMbu { s.mbu with station := station }

/-- A listening state. -/
def listening (s : State) (w : Listen) : State :=
  s.setMbu { s.mbu with station := .listen, listen := some w, ownLease := none, beacon := none }

/-- The listen state at its start. -/
def freshListen : Listen := { timer := some 1400, limit := 4200, served := false, heard := false, agreed := false }

/-- The route of the example, with steps 0 to h held and the turnout's step confirmed or not. -/
def exampleRoute (held : Nat) (confirmed : Bool) (committed : Nat) : List Step :=
  match resolveRoute (some (exampleMap [])) (some 30) [30, 31, 32, 33, 34, 35, 36] with
  | .ok route =>
    route.map fun st =>
      { st with
        held := decide (st.num ≤ held), confirmed := st.required.isSome && confirmed && decide (st.num ≤ held)
        committed := decide (st.num < committed), tag := some 9 }
  | .error _ => []

/-- The table with the first segments of the route held by carriage 6. -/
def exampleTable (held : Nat) : Table :=
  tab fun i => if decide (30 ≤ i.val) && decide (i.val ≤ 30 + held) then
    { (clearTable (some (exampleMap [])))[i] with claim := .held 6 (if i = 34 then some .reverse else none) }
    else (clearTable (some (exampleMap [])))[i]

/-- Carriage 6 on pad 30 at offset 100 with the route loaded and STOP released. -/
def routed (state : RteState) (held : Nat) (confirmed : Bool) (committed : Nat) : State :=
  { carriage with
    ctu := exampleTable held
    rte := { State.reset.rte with
      state := state, route := exampleRoute held confirmed committed, committedLimit := some (committed - 1), serial := 12
      offer := none, tagCounter := 10 }
    mou := { stop := false, stopCause := .reset, current := 0, next := 0, keep := some 500 }
    pos := { State.reset.pos with place := some { head := 30, tail := none, offset := 100, boundary := none, creep := 0 } } }

/-- MOVING with steps 0 to 3 committed. -/
def moving : State := routed .moving 6 true 4

/-- Carriage 6 parked on pad 30, held. -/
def parked : State :=
  { routed .parked 0 false 0 with
    rte := { State.reset.rte with state := .parked, holds := [{ seg := 30, held := true, formerly := false }] } }

/-- A state with a frame on the line. -/
def onLine (s : State) (phase : Phase) (l : LineFrame) : State := s.setLiu { s.liu with phase := phase, line := some l }

/-- A frame of another station. -/
def otherFrame (s : State) (sender : Station) (p : Payload) : Frame := sealFrame sender 0x1234#16 (digest s.ctu) p

/-- A received GOOD frame. -/
def goodFrame (s : State) (sender : Station) (p : Payload) : Received :=
  { frame := otherFrame s sender p, cls := .good, content := some p }

/-- Another station's frame on the line. -/
def otherLine (r : Option Received) (veto : Option Bool) : LineFrame :=
  { participating := true, own := none, received := r, veto := veto }

/-- Our own frame on the line, for an entry. -/
def ownLine (s : State) (e : TxEntry) (veto : Option Bool) : LineFrame :=
  { participating := true, own := some (s.ownFrame e), received := some (s.ownFrame e).received, veto := veto }

/-- An entry in flight. -/
def flyingEntry (key : EntryKey) (args : Args) (withdrawn : Bool) : TxEntry :=
  { key := key, args := args, age := 3, flight := some { pending := none, withdrawn := withdrawn } }

/-- The state with one transmit entry. -/
def withEntry (s : State) (e : TxEntry) : State := s.setTxq { entries := [e], nextAge := 4 }

/-- The state with counts of the line unit. -/
def withCounts (s : State) (vetoRun rejections : Nat) (counted : Option SendId) : State :=
  s.setLiu { s.liu with vetoRun := vetoRun, rejections := rejections, counted := counted }

/-- A release of one segment in flight. -/
def releaseEntry : TxEntry := flyingEntry .release (.segs (segOne 30)) false

/-- A release in flight of 33 and 34: its frame from carriage 6 ends on a stuff bit. -/
def stuffedEntry : TxEntry := flyingEntry .release (.segs (segOne 33 ||| segOne 34)) false

/-- The identity of an entry of a kind other than LIE. -/
def idOf (kind : Kind) : SendId := { kind := kind, turnout := none }

/-- A claim in flight that was withdrawn, and the engine's record of it. -/
def withdrawnClaim : TxEntry := flyingEntry .claim (.claim false [⟨34, none⟩] 0) true

/-- The tally slots of stations 6 and 22: exactly the quorum. -/
def twoSlots : StationSet := stationOne 6 ||| stationOne 22

/-- The next state of an outcome. -/
def after (o : Host.Outcome State Fault Refusal) : Option State :=
  match o with
  | .next t => some t
  | .fault _ | .refused _ => none

/-- The arguments of the transmit entries after a command. -/
def argsAfter (i : Instr) (s : State) : Option (List Args) := (after (exec i s)).map (·.txq.entries.map (·.args))

/-- The law of the engine as a test. -/
def keepsEngineLaw (s : State) : Bool :=
  decide ((s.rte.state = .unplaced ∨ s.rte.state = .placing ∨ s.rte.state = .parked → s.rte.route = []) ∧
    (s.rte.state = .routed → s.rte.route.all (fun st => !st.committed) = true) ∧
    (s.rte.state = .halted ∨ s.rte.locatedHalted = true → s.mou.stop = true) ∧
    (s.rte.locatedHalted = true → s.rte.state = .placing) ∧
    (∀ o ∈ s.rte.claim, o.placement = true → s.rte.state = .placing) ∧
    (s.role ≠ some .carriage ∨ s.mbu.station = .start → s.rte.state = .unplaced ∧ s.rte.offer = none) ∧
    s.rte.offer.map (·.step) = s.offerable)

/-- A state that passes the test has the law of the engine. -/
theorem engineLaw_of {s : State} (h : keepsEngineLaw s = true) : EngineLaw s := by
  have law := of_decide_eq_true h
  exact law

/-- The law of the argument sets as a test. -/
def keepsArgsLaw (s : State) : Bool :=
  decide (∀ e ∈ s.txq.entries, fitsKey e.key e.args = true ∧
    ∀ f ∈ e.flight, ∀ p ∈ f.pending, fitsKey e.key p.args = true)

/-- A state that passes the test has the law of the argument sets. -/
theorem argsLaw_of {s : State} (h : keepsArgsLaw s = true) : ArgsLaw s := fun e he =>
  let h := of_decide_eq_true h e he
  ⟨h.1, fun f p hf hp => h.2 f hf p hp⟩

/-! ## Every statement's hypotheses are met -/

/-- EmptyQueueStepIsAMillisecond; CommandsKeepOtherBlocks has both sorts of command. -/
theorem test_hyps_empty_queue :
    carriage.pending = [] ∧ carriage.inReset = false ∧ Instr.status ≠ .reset ∧ Instr.status ≠ .resetRelease := by decide +kernel

/-- ResetHoldsAndReleaseStarts. -/
theorem test_hyps_reset :
    (carriage.setInReset true).inReset = true ∧ carriage.inReset = false ∧ Instr.lineIdle ≠ .reset ∧
      Instr.lineIdle ≠ .resetRelease := by decide +kernel

/-- FailedReadsEnterConfigFault: two, and three, failures in a row; a store that ends at once. -/
theorem test_hyps_failed_reads :
    State.reset.inReset = false ∧ State.reset.mbu.station = .start ∧ State.reset.opr.reading = true ∧
      (State.reset.setOpr { State.reset.opr with failures := 1 }).opr.failures < 2 ∧
      (State.reset.setOpr { State.reset.opr with failures := 2 }).opr.failures = 2 ∧
      (match readStore [] with
        | .error fault => some fault
        | .ok _ => none) = some .badFormat := by decide +kernel

/-- A CRC as its two bytes. -/
def crcField (bytes : List Byte) : List Byte := bytes2 (crcBytes bytes).toNat

/-- The option bytes of station 3 of {3, 4, 21} in a role. -/
def optionBytes (station role : Byte) : List Byte :=
  [station, role, 0x18, 0x00, 0x04, 0x00, 2, 2, 4, 0x01, 0x5E, 6, 5, 3, 0, 200, 40, 0, 1, 44, 0, 4, 176, 0, 11, 184, 3, 6, 10,
   0, 5, 6]

/-- Two map records: a pad linked to a plain segment. -/
def padAndPlain : List Byte := [2, 0, 1, 0x90, 4, 255, 255, 0, 1, 0, 3, 0x84, 0, 255, 255, 0]

/-- Three map records: the same, and a turnout of station 21 unlinked. -/
def withTurnout : List Byte := padAndPlain ++ [3, 0, 1, 0x68, 255, 255, 255, 21]

/-- A whole store. -/
def storeOf (options records : List Byte) (count : Byte) : List Byte :=
  [1, 32, count, 0] ++ options ++ crcField options ++ records ++ crcField records

/-- What an installation gives: the role, the roster and the owned list. -/
def installed (store : List Byte) : Option (Role × StationSet × List Seg) :=
  match readStore store with
  | .ok (o, m) => some (o.role, o.roster, m.owned)
  | .error _ => none

/-- A good store is some options and some map. -/
theorem installed_ok {store : List Byte} {r : Role × StationSet × List Seg} (h : installed store = some r) :
    ∃ o m, readStore store = .ok (o, m) ∧ o.role = r.1 ∧ o.roster = r.2.1 ∧ m.owned = r.2.2 := by
  unfold installed at h
  match hr : readStore store with
  | .ok (o, m) =>
    rw [hr] at h
    simp only [Option.some.injEq] at h
    exact ⟨o, m, rfl, by rw [← h], by rw [← h], by rw [← h]⟩
  | .error _ => rw [hr] at h; simp at h

/-- GoodStoreIsInstalled: a carriage, a wayside that owns a turnout, a wayside that owns none. -/
theorem test_hyps_good_store :
    installed (storeOf (optionBytes 3 0) padAndPlain 2) = some (.carriage, 0x18000400#32, []) ∧
      installed (storeOf (optionBytes 21 1) withTurnout 3) = some (.wayside, 0x18000400#32, [2]) ∧
      installed (storeOf (optionBytes 4 1) withTurnout 3) = some (.wayside, 0x18000400#32, []) ∧
      (State.reset.setToc { State.reset.toc with settled := true }).toc.settled = true ∧
      State.reset.toc.settled = false := by decide +kernel

/-- The fault of a store. -/
def storeFault (store : List Byte) : Option ConfigFault :=
  match readStore store with
  | .ok _ => none
  | .error fault => some fault

/-- R197, R198, R11 to R13: one store for each fault of a store that can be read. -/
theorem test_store_faults :
    storeFault (storeOf (optionBytes 3 0) padAndPlain 1) = some .badFormat ∧
      storeFault ([1, 32, 2, 0] ++ optionBytes 3 0 ++ [0, 0] ++ padAndPlain ++ crcField padAndPlain) = some .badCrc ∧
      storeFault (storeOf (optionBytes 5 0) padAndPlain 2) = some .badStation ∧
      storeFault (storeOf ((optionBytes 3 0).set 6 1) padAndPlain 2) = some .badQuorum ∧
      storeFault (storeOf ((optionBytes 3 0).set 28 17) padAndPlain 2) = some .badSpeed ∧
      storeFault (storeOf (optionBytes 3 0) (padAndPlain.set 4 8) 2) = some .badMap ∧
      storeFault (storeOf (optionBytes 3 0) (padAndPlain.set 2 0) 2) = some .badLengths ∧
      storeFault (storeOf (optionBytes 3 0) (withTurnout.set 23 3) 3) = some .badOwner := by decide +kernel

/-- GoodStoreIsInstalled, FailedReadsEnterConfigFault: what the bytes of a good store say of four segments, of the roster and of two ends. -/
theorem test_hyps_store_records :
    let good := storeOf (optionBytes 21 1) withTurnout 3
    [(0 : Seg), 1, 2, 3].map (storeKind good) = [2, 1, 3, 0] ∧ storeRoster good = 0x18000400#32 ∧ StoreLinks good 0 0 1 0 ∧
      StoreLinks good 1 0 0 0 ∧ ¬StoreLinks good 2 0 1 0 := by
  unfold StoreLinks
  decide +kernel

/-- A wayside in START whose store is installed. -/
def waysideInStart : State := at_ (wayside.setToc { State.reset.toc with settleLimit := some 1000 }) .start

/-- SettleMakesTheRecords: both roles, both rows. -/
theorem test_hyps_settle :
    State.reset.inReset = false ∧ State.reset.mbu.station = .start ∧ State.reset.toc.settled = false ∧
      State.reset.role ≠ some .wayside ∧ (at_ carriage .start).role ≠ some .wayside ∧
      waysideInStart.inReset = false ∧ waysideInStart.mbu.station = .start ∧ waysideInStart.toc.settled = false ∧
      waysideInStart.toc.settleLimit.isSome = true ∧
      waysideInStart.opr.options = some (exampleOptions 22 .wayside) ∧ (exampleOptions 22 .wayside).role = .wayside ∧
      waysideInStart.opr.map = some (exampleMap [34]) := by decide +kernel

/-- The four inputs of SettleMakesTheRecords that tell the lies apart, and an unsettled one. -/
theorem test_start_lies :
    [(true, false), (false, true), (false, false), (true, true)].map (fun p =>
        startLie (inputsOfLevels ⟨p.1, p.2, false⟩)) = [.normal, .reverse, .unknown, .failed] ∧
      startLie (inputsAtLimit ⟨none, some true, some false⟩) = .failed ∧
      (inputsAtLimit ⟨none, none, none⟩).occupancy.level = true := by decide

/-! ### The line -/

/-- LineIdleAndStarts. -/
theorem test_hyps_line_starts :
    ((carriage.setLiu { carriage.liu with phase := .seek }).liu.phase = .seek) ∧
      carriage.liu.phase = .idle ∧ carriage.choice = none ∧ carriage.online = true ∧
      (withEntry carriage { releaseEntry with flight := none }).liu.phase = .idle ∧
      (withEntry carriage { releaseEntry with flight := none }).txq.choice = some { releaseEntry with flight := none } := by
  decide +kernel

/-- ChoiceAndPayload: a queue whose choice is the older of two of one urgency, and one with no choice. -/
theorem test_hyps_choice :
    Txq.choice { entries := [⟨.clear, .segs 1, 5, none⟩, ⟨.release, .segs 1, 4, none⟩, ⟨.beacon, .beacon, 0, none⟩],
                 nextAge := 6 } = some ⟨.release, .segs 1, 4, none⟩ ∧
      Txq.choice { entries := [releaseEntry], nextAge := 4 } = none := by decide +kernel

/-- This station sending an entry. -/
def sending (s : State) (e : TxEntry) : State :=
  onLine (withEntry s e) .send { ownLine s e none with received := none }

/-- ArbitrationLostAndClash: with no entry in flight (after a relisten), at 14 and 15 rejections, for another entry, before and after the end of
arbitration, at the stuff bit after the CRC, withdrawn in both roles; a CLAIM after a counted RECLAIM. -/
theorem test_hyps_arbitration :
    let taken := flyingEntry .claim (.claim false [⟨34, none⟩] 0) true
    let claiming := (sending carriage taken).setRte { carriage.rte with
      claim := some { placement := false, reclaim := false, bundle := [⟨34, none⟩], tag := 0, first := 1, withdrawn := true } }
    let counted := fun n kind => withCounts (sending carriage releaseEntry) 0 n (some (idOf kind))
    (sending carriage releaseEntry).liu.phase = .send ∧ (onLine carriage .send (otherLine none none)).txq.flying = none ∧
      (otherLine none none).received = none ∧ (ownLine carriage releaseEntry none).received.isSome = true ∧
      (onLine (withEntry carriage releaseEntry) .send (ownLine carriage releaseEntry none)).liu.phase = .send ∧
      (sending carriage releaseEntry).txq.flying = some releaseEntry ∧
      releaseEntry.flight = some { pending := none, withdrawn := false } ∧
      [true, false].map (fun b =>
          (clashCount (counted 14 .release) b releaseEntry, clashCount (counted 15 .release) b releaseEntry,
            clashCount (counted 15 .beacon) b releaseEntry)) =
        [(14, 15, 0), (14, 15, 15)] ∧
      clashCount (withCounts claiming 0 15 (some (idOf .reclaim))) true taken = 0 ∧
      (counted 15 .release).online = true ∧
      (sending wayside taken).txq.flying = some taken ∧ taken.flight = some { pending := none, withdrawn := true } ∧
      (sending wayside taken).liu.phase = .send ∧ (sending wayside releaseEntry).role = some .wayside ∧
      claiming.txq.flying = some taken ∧ claiming.role = some .carriage ∧ claiming.rte.claim.isSome = true ∧
      claiming.liu.phase = .send := by decide +kernel

/-- StuffErrorsAndBreaks. -/
theorem test_hyps_stuff_errors :
    (onLine carriage .receive (otherLine none none)).inReset = false ∧
      (onLine carriage .receive (otherLine none none)).liu.line = some (otherLine none none) ∧
      (onLine carriage .receive (otherLine none none)).liu.phase = .receive ∧ (otherLine none none).participating = true ∧
      { otherLine none none with participating := false }.participating = false ∧
      (withCounts (onLine carriage .breaking (otherLine none none)) 6 0 none).liu.phase = .breaking ∧
      (withCounts (onLine carriage .breaking (otherLine none none)) 6 0 none).liu.vetoRun < 7 := by decide +kernel

/-- A frame of station 22 that ends on a stuff bit. -/
def stuffedFrame : Frame := otherFrame carriage 22 (.release [36])

set_option maxRecDepth 100000 in
/-- StuffErrorsAndBreaks, FramesAreClassified, VetoSlotIsRead, StuffingIsUndone: frames with a stuff bit after the CRC and without, received and sent;
the stuffed part of one is its bits with one more behind them. -/
theorem test_hyps_stuff_bit :
    stuffBitFollows stuffedFrame = true ∧ stuffBitFollows (otherFrame carriage 9 (.release [30])) = false ∧
      stuffBitFollows (carriage.ownFrame stuffedEntry).frame = true ∧
      stuffBitFollows (carriage.ownFrame releaseEntry).frame = false ∧
      unstuff (frameWire stuffedFrame).dropLast = some (frameBits stuffedFrame) := by decide +kernel

set_option maxRecDepth 100000 in
/-- R44, R61: at the stuff bit after its CRC this station still sends, and reads back; a station that receives sends nothing there; each is in SLOTS
where no stuff bit follows, and at the veto slot. -/
theorem test_phase_after_crc :
    let phase := fun (i : Instr) (s : State) => (after (exec i s)).map (·.liu.phase)
    let receiving := onLine carriage .receive (otherLine none none)
    let atStuffBit := onLine (withEntry carriage stuffedEntry) .send (ownLine carriage stuffedEntry none)
    phase (.frameClassify stuffedFrame) (sending carriage stuffedEntry) = some .send ∧
      phase (.frameClassify stuffedFrame) (sending carriage releaseEntry) = some .slots ∧
      phase (.frameClassify stuffedFrame) receiving = some .receive ∧
      phase (.frameClassify (otherFrame carriage 9 (.release [30]))) receiving = some .slots ∧
      phase (.clash true) atStuffBit = some .receive ∧ phase (.vetoSlotEnd false) atStuffBit = some .slots ∧
      atStuffBit.tlo = [!(frameWire (carriage.ownFrame stuffedEntry).frame).getLastD true] ∧
      phase (.stuffError true) (onLine carriage .receive (otherLine (some (goodFrame carriage 22 (.release [36]))) none)) =
        some .breaking := by decide +kernel

/-- A frame with one bit of its CRC wrong. -/
def spoiled (f : Frame) : Frame := { f with crc := f.crc ^^^ 1#16 }

set_option maxRecDepth 100000 in
/-- FramesAreClassified: both sorts of line frame, and each condition of the class. -/
theorem test_hyps_classify :
    (onLine carriage .receive (otherLine none none)).liu.phase = .receive ∧ (otherLine none none).received = none ∧
      (otherLine (some (goodFrame carriage 9 (.release [30]))) none).received.isSome = true ∧
      (sending carriage releaseEntry).liu.phase = .send ∧
      ({ ownLine carriage releaseEntry none with received := none }).own = some (carriage.ownFrame releaseEntry) ∧
      ({ ownLine carriage releaseEntry none with received := none }).participating = true ∧
      frameCrcGood (otherFrame carriage 9 (.release [30])) = true ∧
      (sealFrame 9 0x4321#16 (digest carriage.ctu) (.release [30])).fingerprint ≠ mapFingerprint carriage.opr.map ∧
      frameCrcGood (sealFrame 9 0x4321#16 (digest carriage.ctu) (.release [30])) = true ∧
      (otherFrame carriage 9 (.release [30])).fingerprint = mapFingerprint carriage.opr.map ∧
      (frameContent carriage.opr.map carriage.roster (otherFrame carriage 9 (.release [30]))).isSome = true ∧
      (otherFrame carriage 9 (.release [30])).digest = digest carriage.ctu ∧
      (listening carriage freshListen).mbu.station = .listen ∧
      frameCrcGood (spoiled (otherFrame carriage 9 (.release [30]))) = false ∧
      frameContent carriage.opr.map carriage.roster (otherFrame carriage 10 (.release [30])) = none ∧
      carriage.mbu.station ≠ .listen ∧
      (sealFrame 9 0x1234#16 (digest carriage.ctu ^^^ 1#16) (.release [30])).digest ≠ digest carriage.ctu := by decide +kernel

set_option maxRecDepth 100000 in
/-- FramesAreClassified: a sender that relistened while it sent. -/
theorem test_hyps_classify_not_participating :
    let l := { ownLine carriage releaseEntry none with participating := false }
    let sent := { l with received := none }
    (onLine carriage .send sent).liu.phase = .send ∧ (onLine carriage .send sent).liu.line = some sent ∧ sent.own.isSome = true ∧
      sent.participating = false ∧ sent.received = none ∧ l.received.isSome = true := by decide +kernel

/-- A frame of a station as carriage 6 reads it. -/
def readsAs (sender : Station) (p : Payload) : Option Payload :=
  frameContent carriage.opr.map carriage.roster (otherFrame carriage sender p)

set_option maxRecDepth 100000 in
/-- FramesAreClassified: R65 to R71, one payload for each check that fails, and a sender that the roster does not have; a CARRIAGE that lists
no lie, and a GUARD of the owner, pass. -/
theorem test_hyps_payload_checks :
    ([.beacon false .carriage [⟨29, none⟩] 0 [], .beacon false .carriage [⟨31, some .normal⟩] 0 [],
        .beacon false .carriage [⟨31, none⟩, ⟨30, none⟩] 0 [], .beacon false .carriage [] (segOne 29) [],
        .beacon false .carriage [⟨30, none⟩] (segOne 30) [], .beacon false .wayside [] 0 [⟨29, .failed⟩],
        .beacon false .wayside [] 0 [⟨34, .failed⟩, ⟨34, .normal⟩], .beacon false .carriage [] 0 [⟨34, .failed⟩],
        .claim 3 [], .claim 3 [⟨31, none⟩, ⟨31, none⟩], .reclaim 3 [⟨31, some .reverse⟩], .release [], .release [31, 30],
        .clear [29], .guard [33], .lapse 0, .lapse (stationOne 7), .lie 29 .failed .report none,
        .lie 34 .normal .done (some (7, 0))] : List Payload).all (fun p => (readsAs 22 p).isNone) = true ∧
      readsAs 7 (.release [30]) = none ∧ readsAs 9 (.guard [34]) = none ∧ readsAs 22 (.guard [34]) = some (.guard [34]) ∧
      readsAs 9 (.beacon false .carriage [] 0 []) = some (.beacon false .carriage [] 0 []) := by decide +kernel

/-- A frame of station 9 that this station vetoes. -/
def faultyLine (veto : Option Bool) : LineFrame :=
  otherLine (some { frame := spoiled (otherFrame carriage 9 (.release [30])), cls := .faulty, content := none }) veto

set_option maxRecDepth 100000 in
/-- VetoSlotIsRead: a station that drove a veto at a run of six, and one that drove none; in SLOTS, and at a stuff bit in RECEIVE and in SEND. -/
theorem test_hyps_veto_slot :
    AtVeto (onLine carriage .slots (faultyLine none)) (faultyLine none) ∧
      AtVeto (onLine carriage .receive (faultyLine none)) (faultyLine none) ∧
      AtVeto (onLine carriage .send (ownLine carriage stuffedEntry none)) (ownLine carriage stuffedEntry none) ∧
      (ownLine carriage stuffedEntry none).vetoes = false ∧ (faultyLine none).vetoes = true ∧ (withCounts (onLine carriage .slots (faultyLine none)) 6 0 none).liu.vetoRun < 7 ∧
      (withCounts (onLine carriage .slots (faultyLine none)) 6 0 none).liu.line = some (faultyLine none) ∧
      (withCounts (onLine carriage .slots (faultyLine none)) 6 0 none).liu.phase = .slots ∧
      (faultyLine none).received.isSome = true ∧
      (otherLine (some (goodFrame carriage 9 (.release [30]))) none).vetoes = false := by
  unfold AtVeto
  decide +kernel

set_option maxRecDepth 100000 in
/-- VetoSlotIsRead, the output TLO: before the idle gap; idle with a choice and without; the own frame; a break of a participant and of a
listening station; the veto slot with a veto and without; the tally slots of a GOOD frame and of one that met a veto. -/
theorem test_hyps_tlo :
    let off := fun (s : State) (p : Phase) => (s.setLiu { s.liu with phase := p }).tlo
    let silent := onLine (listening carriage freshListen) .breaking { otherLine none none with participating := false }
    let good := some (goodFrame carriage 9 (.release [30]))
    off carriage .off = [] ∧ off carriage .seek = [] ∧ (onLine carriage .receive (otherLine none none)).tlo = [] ∧
      carriage.choice = none ∧ carriage.tlo = [] ∧ (withEntry carriage { releaseEntry with flight := none }).choice.isSome = true ∧
      (withEntry carriage { releaseEntry with flight := none }).tlo = [true] ∧
      frameWire (carriage.ownFrame releaseEntry).frame = false :: (sending carriage releaseEntry).tlo.map (fun on => !on) ∧
      (onLine carriage .receive (faultyLine none)).tlo = [false, true, true] ∧
      (onLine carriage .receive (otherLine good none)).tlo = [false, false, false] ∧
      (onLine carriage .breaking (otherLine none none)).tlo = List.replicate 8 true ∧
      (onLine carriage .slots (faultyLine none)).tlo = [true, true] ∧
      (onLine carriage .slots (otherLine good none)).tlo = [false, false] ∧
      (onLine carriage .slots (otherLine good (some false))).tlo = (List.range 30).map (fun k => decide (k = 5)) ∧
      (onLine carriage .slots (otherLine good (some true))).tlo = List.replicate 30 false ∧
      silent.online = false ∧ silent.liu.phase ≠ .send ∧ silent.tlo = List.replicate 8 false := by decide +kernel

/-- VetoSlotIsRead: the invariant at a listening station that follows a break. -/
theorem test_hyps_tlo_law :
    TracklineLaw (onLine (listening carriage freshListen) .breaking { otherLine none none with participating := false }) := by
  intro f h hp
  cases h
  cases hp

/-- RejectedFrames: a veto, a tally one short of the quorum; no entry in flight, and one at 14 and at 15 rejections. -/
theorem test_hyps_rejected :
    (faultyLine (some true)).veto = some true ∧
      (otherLine (some (goodFrame carriage 9 (.release [30]))) (some false)).veto = some false ∧
      stationCount (stationOne 6 &&& carriage.roster) < carriage.option (·.quorum) ∧
      (faultyLine (some true)).own = none ∧ carriage.txq.flying = none ∧
      (ownLine carriage releaseEntry (some true)).own.isSome = true ∧
      (withEntry carriage releaseEntry).txq.flying = some releaseEntry ∧ carriage.mbu.sighting = none ∧
      (ownLine carriage releaseEntry (some true)).veto = some true ∧
      (ownLine carriage releaseEntry (some false)).veto = some false ∧
      (withCounts (onLine (withEntry carriage releaseEntry) .slots (ownLine carriage releaseEntry (some true))) 0 14
        (some (idOf .release))).liu.rejections < 15 ∧
      15 ≤ (withCounts (onLine (withEntry carriage releaseEntry) .slots (ownLine carriage releaseEntry (some true))) 0 15
        (some (idOf .release))).liu.rejections ∧
      (onLine (withEntry carriage releaseEntry) .slots (ownLine carriage releaseEntry (some true))).online = true := by
  decide +kernel

/-- A carriage whose withdrawn claim is in flight. -/
def withdrawing : State :=
  (withEntry carriage withdrawnClaim).setRte { carriage.rte with
    claim := some { placement := false, reclaim := false, bundle := [⟨34, none⟩], tag := 0, first := 1, withdrawn := true } }

/-- RejectedFrames: a withdrawn claim in flight at a carriage and at a wayside, with a veto at 14 rejections and with a short tally. -/
theorem test_hyps_rejected_withdrawn :
    let at14 := fun (s : State) (veto : Bool) =>
      withCounts (onLine (withEntry s withdrawnClaim) .slots (ownLine s withdrawnClaim (some veto))) 0 14 (some (idOf .claim))
    ∀ veto ∈ [true, false], ∀ s ∈ [at14 withdrawing veto, at14 wayside veto],
      s.inReset = false ∧ s.liu.phase = .slots ∧ s.mbu.sighting = none ∧ s.txq.flying = some withdrawnClaim ∧
        (∀ f ∈ withdrawnClaim.flight, f.withdrawn = true) ∧ s.liu.rejections < 15 ∧
        (s.liu.line.bind (·.own)).isSome = true ∧ s.liu.line.bind (·.veto) = some veto ∧
        (s.role = some .wayside ∨ (s.role = some .carriage ∧ s.rte.claim.isSome = true)) := by decide +kernel

/-- A state with a foreign sighting. -/
def sighted (k last : Station) : State := carriage.setMbu { carriage.mbu with sighting := some k, lastConflict := last }

/-- The state at the verdict TAKEN of another station's frame. -/
def atVerdict (s : State) (r : Received) : State := onLine s .slots (otherLine (some r) (some false))

/-- SightingsEndWithTheirFrame: stations 1 and 30, marked and not; numbers 0 and 31. -/
theorem test_hyps_sightings :
    carriage.mbu.sighting = none ∧ (sighted 30 30).mbu.sighting = some 30 ∧ (30 : Station) = (sighted 30 30).mbu.lastConflict ∧
      (1 : Station) ≠ (sighted 1 30).mbu.lastConflict ∧ 1 ≤ (1 : Station).val ∧ (30 : Station).val ≤ 30 ∧
      (tabSet carriage.mbu.peers 30 { Peer.reset with foreign := true })[(30 : Station)].foreign = true ∧
      carriage.mbu.peers[(1 : Station)].foreign = false ∧ ¬(1 ≤ (0 : Station).val ∧ (0 : Station).val ≤ 30) ∧
      ¬(1 ≤ (31 : Station).val ∧ (31 : Station).val ≤ 30) := by decide +kernel

set_option maxRecDepth 100000 in
/-- SightingsEndWithTheirFrame: the verdict TAKEN with a sighting of stations 9 (unmarked), 30 (marked) and 31. -/
theorem test_hyps_sightings_taken :
    let r := goodFrame carriage 22 (.clear [31])
    (∀ k ∈ [(9 : Station), 30, 31], AtTaken (atVerdict (sighted k 0) r) (otherLine (some r) (some false)) r twoSlots ∧
      (atVerdict (sighted k 0) r).mbu.sighting = some k) ∧
      r.ofKind .clear = true ∧ (atVerdict (sighted 9 0) r).online = true ∧
      (sighted 9 0).mbu.peers[(9 : Station)].foreign = false ∧
      (after (exec (takenInstr .clear twoSlots) (atVerdict (sighted 9 0) r))).map (fun t => (t.mbu.sighting, t.dpt.notices.length)) =
        some (none, 2) := by
  unfold AtTaken
  decide +kernel

/-! ### Relisten and halt -/

/-- A break that this station drives on seven recessive bits, with seven in a row before it. -/
def breakingOnRecessive : State :=
  let s := withCounts (onLine carriage .breaking (otherLine none none)) 7 0 none
  s.setLiu { s.liu with breakOnRecessive := true }

/-- A state that tallies. -/
def tallying : State := onLine carriage .slots (otherLine (some (goodFrame carriage 9 (.release [30]))) (some false))

/-- RelistenClearsTheStation: the own lease, a failure to drive the tally and the veto, the veto-run limit at the slot and at a break. -/
theorem test_hyps_relisten :
    let vetoing := onLine carriage .slots (faultyLine none)
    let afterStuffBit := onLine carriage .receive (faultyLine none)
    let atLimit := withCounts vetoing 7 0 none
    carriage.inReset = false ∧ carriage.online = true ∧ Relistens carriage .ownLeaseExpiry .ownLease carriage ∧
      Relistens tallying .driveFailure .driveFailure tallying ∧ Relistens vetoing .driveFailure .driveFailure vetoing ∧
      Relistens afterStuffBit .driveFailure .driveFailure afterStuffBit ∧
      Relistens vetoing (.vetoSlotEnd false) .driveFailure vetoing ∧ Relistens atLimit (.vetoSlotEnd true) .vetoRun atLimit ∧
      Relistens breakingOnRecessive .breakEnd .vetoRun breakingOnRecessive := by
  refine ⟨by decide +kernel, by decide +kernel, ⟨rfl, rfl, rfl, rfl⟩, ⟨rfl, rfl, _, .inl ⟨rfl, rfl, by decide +kernel⟩⟩,
    ⟨rfl, rfl, _, .inr ⟨⟨rfl, rfl, rfl, .inl rfl⟩, by decide +kernel⟩⟩,
    ⟨rfl, rfl, _, .inr ⟨⟨rfl, rfl, rfl, .inr (.inr rfl)⟩, by decide +kernel⟩⟩,
    ⟨⟨_, ⟨rfl, rfl, rfl, .inl rfl⟩, by decide +kernel⟩, rfl, .inr ⟨rfl, rfl⟩⟩,
    ⟨⟨_, ⟨rfl, rfl, rfl, .inl rfl⟩, by decide +kernel⟩, rfl, .inl ⟨rfl, by decide +kernel, rfl⟩⟩,
    ⟨rfl, rfl, rfl, by decide +kernel, rfl, _, rfl, rfl⟩⟩

/-- RelistenKeepsTheRoute: MOVING and not. -/
theorem test_hyps_relisten_route :
    moving.inReset = false ∧ moving.role = some .carriage ∧ moving.mbu.station = .active ∧ moving.mbu.ownLease.isSome = true ∧
      moving.rte.state = .moving ∧ parked.rte.state ≠ .moving ∧ parked.mbu.ownLease.isSome = true := by decide +kernel

/-- RelistenKeepsTheRoute: a carriage MOVING when it cannot drive its veto, and PLACING at the veto-run limit; STOP asserted and released. -/
theorem test_hyps_relisten_causes :
    let silent := onLine moving .slots (faultyLine none)
    let placing := withCounts (onLine { moving with rte := { State.reset.rte with state := .placing } } .slots (faultyLine none)) 7 0 none
    Relistens silent (.vetoSlotEnd false) .driveFailure silent ∧ Relistens placing (.vetoSlotEnd true) .vetoRun placing ∧
      (onLine moving .slots (faultyLine none)).online = true ∧ moving.mou.stop = false ∧ carriage.mou.stop = true :=
  ⟨⟨⟨_, ⟨rfl, rfl, rfl, .inl rfl⟩, by decide +kernel⟩, rfl, .inr ⟨rfl, rfl⟩⟩,
    ⟨⟨_, ⟨rfl, rfl, rfl, .inl rfl⟩, by decide +kernel⟩, rfl, .inl ⟨rfl, by decide +kernel, rfl⟩⟩, by decide +kernel, rfl, rfl⟩

/-- A state whose claim in flight was withdrawn, with its clash or its veto the sixteenth. -/
def withdrawnAtLimit (s : State) : State :=
  withCounts ((sending s withdrawnClaim).setRte { s.rte with
    claim := some { placement := false, reclaim := false, bundle := [⟨34, none⟩], tag := 0, first := 1, withdrawn := true } })
    0 15 (some (idOf .claim))

/-- RelistenClearsTheStation, RelistenKeepsTheRoute: the rejection limit at a clash, of a MOVING carriage and of one whose withdrawn claim it was, at the
veto of a wayside's possession claim and at one of a carriage with a sighting held; the veto-run limit at a break with a sighting held. -/
theorem test_hyps_relisten_limit :
    let clashing := withCounts (sending moving releaseEntry) 0 15 (some (idOf .release))
    let vetoed := fun (s : State) (e : TxEntry) =>
      withCounts (onLine (withEntry s e) .slots (ownLine s e (some true))) 0 15 (some e.identity)
    let sighting := (vetoed moving releaseEntry).setMbu { moving.mbu with sighting := some 9 }
    let breaking := breakingOnRecessive.setMbu { breakingOnRecessive.mbu with sighting := some 9 }
    Relistens clashing (.clash true) .rejectionLimit clashing ∧ clashing.rte.state = .moving ∧ clashing.online = true ∧
      Relistens (withdrawnAtLimit moving) (.clash true) .rejectionLimit
        (discardClaim (withdrawnAtLimit moving) withdrawnClaim { pending := none, withdrawn := true }) ∧
      Relistens (vetoed wayside withdrawnClaim) (.frameRejected twoSlots) .rejectionLimit
        (vetoed wayside withdrawnClaim).sightingLost ∧
      Relistens sighting (.frameRejected twoSlots) .rejectionLimit sighting.sightingLost ∧
      Relistens breaking .breakEnd .vetoRun breaking.sightingLost ∧ breaking.sightingLost.dpt ≠ breaking.dpt :=
  ⟨⟨rfl, rfl, releaseEntry, _, by decide +kernel, rfl, by decide +kernel, rfl⟩, rfl, by decide +kernel,
    ⟨rfl, rfl, withdrawnClaim, _, by decide +kernel, rfl, by decide +kernel, rfl⟩,
    ⟨rfl, rfl, by decide +kernel, ⟨_, rfl, rfl, rfl⟩, withdrawnClaim, _, by decide +kernel, rfl,
      (if_neg (by decide +kernel)).symm⟩,
    ⟨rfl, rfl, by decide +kernel, ⟨_, rfl, rfl, rfl⟩, releaseEntry, _, by decide +kernel, rfl,
      (if_neg (by decide +kernel)).symm⟩,
    ⟨rfl, rfl, rfl, by decide +kernel, rfl, _, rfl, rfl⟩, by decide +kernel⟩

/-- R59, R96: at the sixteenth rejection the withdrawn claim is over and the planner's next one takes a tag and an age, before the relisten takes it
away again (log entry 32); the carriage is HALTED. -/
theorem test_relisten_at_the_limit :
    let s := withdrawnAtLimit (routed .moving 3 false 1)
    let t := after (exec (.clash true) s)
    t.map (fun t => (t.mbu.station, t.mbu.cause, t.rte.state)) = some (.listen, .rejectionLimit, .halted) ∧
      t.map (fun t => (t.rte.claim, t.txq.entries)) = some (none, []) ∧
      t.map (fun t => (t.rte.tagCounter, t.txq.nextAge)) = some (s.rte.tagCounter + 1, s.txq.nextAge + 1) ∧
      t.map (·.dpt.notices) =
        some ((discardClaim s withdrawnClaim { pending := none, withdrawn := true }).dpt.notices ++
          [.link .listen .rejectionLimit, .halted .relisten 0]) := by decide +kernel

/-- DuplicateHalts: in ACTIVE and in LISTEN, in both roles, of a beacon and of a RECLAIM. -/
theorem test_hyps_duplicate :
    let r := goodFrame moving 6 (.beacon false .carriage [] 0 [])
    (onLine moving .slots (otherLine (some r) (some false))).online = true ∧ r.ofKind .beacon = true ∧
      (goodFrame moving 6 (.reclaim 3 [⟨30, none⟩])).ofKind .reclaim = true ∧
      (otherLine (some r) (some false)).veto = some false ∧ (otherLine (some r) (some false)).own = none ∧
      moving.option (·.quorum) ≤ stationCount (twoSlots &&& moving.roster) ∧ frameStation r.frame = moving.me ∧
      (listening moving freshListen).mbu.station = .listen ∧ moving.role = some .carriage ∧ wayside.role = some .wayside ∧
      frameStation (goodFrame wayside 22 (.release [30])).frame = wayside.me := by decide +kernel

/-! ### Taken frames -/

/-- One payload of each kind. -/
def onePayloads : List Payload :=
  [.beacon true .wayside [⟨30, none⟩] (segOne 31) [⟨34, .reverse⟩], .claim 3 [⟨31, none⟩], .reclaim 3 [⟨34, some .reverse⟩],
   .release [30], .lapse (stationOne 9), .clear [31], .guard [34], .lie 34 .reverse .done (some (6, 9))]

set_option maxRecDepth 100000 in
/-- TakenFramesChangeTheTable, TakenFramesRenewLeases: every kind, received from 22 and sent by this station. -/
theorem test_hyps_taken :
    onePayloads.map Payload.kind = [.beacon, .claim, .reclaim, .release, .lapse, .clear, .guard, .lie] ∧
      (onePayloads.all fun p =>
        decide (frameContent carriage.opr.map carriage.roster (otherFrame carriage 22 p) = some p)) = true ∧
      carriage.option (·.quorum) ≤ stationCount (twoSlots &&& carriage.roster) ∧
      frameStation (goodFrame carriage 22 (.release [30])).frame ≠ carriage.me ∧
      (ownLine carriage releaseEntry (some false)).own.isSome = true ∧
      (withEntry carriage releaseEntry).txq.flying.isSome = true ∧
      (onLine carriage .slots (ownLine carriage releaseEntry (some false))).online = true := by decide +kernel

set_option maxRecDepth 100000 in
/-- TakenFramesRenewLeases: a roster station in the tally and the sender outside it; a LAPSE naming another station and this one; a role; the LAPSE
entry waiting and in flight with additions; ACTIVE, LISTEN and ANNOUNCE with the own announce. -/
theorem test_hyps_renew :
    let waiting : TxEntry := { key := .lapse, args := .stations (stationOne 9), age := 3, flight := none }
    let flying : TxEntry := { waiting with
      flight := some { pending := some { args := .stations (stationOne 22), age := 4 }, withdrawn := false } }
    (9 : Station) ≠ carriage.me ∧ stationHas carriage.roster 9 = true ∧
      stationHas twoSlots 9 = false ∧ frameStation (goodFrame carriage 9 (.release [30])).frame = 9 ∧
      stationHas twoSlots 22 = true ∧ carriage.mbu.sighting = none ∧ carriage.mbu.station = .active ∧
      (withEntry carriage waiting).txq.entries = [waiting] ∧ (withEntry carriage flying).txq.flying = some flying ∧
      (listening carriage freshListen).mbu.station = .listen ∧ (goodFrame carriage 9 (.release [30])).cls ≠ .faulty ∧
      (at_ carriage .announce).mbu.station = .announce ∧
      (ownLine (at_ carriage .announce) (flyingEntry .beacon .beacon false) (some false)).received.bind (·.content) =
        some (.beacon true .carriage [] 0 []) := by
  decide +kernel

/-- TakenFramesRenewLeases: stations shown and not, named and not, with a role and with none; a miss in LISTEN names none. -/
theorem test_hyps_renew_named :
    let lapse := goodFrame carriage 22 (.lapse (stationOne 9 ||| stationOne 6))
    let clear := goodFrame carriage 22 (.clear [31])
    let missed : Received := { lapse with cls := .faulty }
    SeenIn carriage lapse twoSlots 22 ∧ SeenIn carriage lapse (stationOne 9) 9 ∧ ¬SeenIn carriage lapse twoSlots 9 ∧
      ¬SeenIn carriage lapse twoSlots 6 ∧ NamedIn carriage lapse 9 ∧ NamedIn carriage lapse carriage.me ∧
      (∀ k, ¬NamedIn carriage clear k) ∧ (∀ role, ¬RoleIn carriage clear role) ∧
      RoleIn carriage (goodFrame carriage 22 (.beacon true .wayside [] 0 [])) .wayside ∧
      ∀ k, ¬NamedIn (listening carriage freshListen) missed k := by
  refine ⟨?_, ?_, ?_, ?_, ⟨.inl (by decide +kernel), .inl ⟨_, rfl, by decide +kernel⟩⟩,
    ⟨.inl (by decide +kernel), .inl ⟨_, rfl, by decide +kernel⟩⟩, ?_, ?_,
    ⟨.inl (by decide +kernel), .inl ⟨_, _, _, _, rfl⟩⟩, ?_⟩
  iterate 4 (unfold SeenIn; decide +kernel)
  · rintro k ⟨-, ⟨set, h, -⟩ | ⟨h, -⟩⟩ <;> cases h
  · rintro role ⟨-, ⟨a, b, c, d, h⟩ | ⟨h, -⟩⟩ <;> cases h
  · rintro k ⟨h | h, -⟩
    · revert h
      decide +kernel
    · exact h rfl

/-- A FOREIGN frame of station 9 whose content failed a check under a good CRC. -/
def unreadable (kind : Kind) (payload : List Byte) : Received :=
  let bare : Frame :=
    { urgency := BitVec.ofNat 3 kind.urgency, sender := 9, kind := BitVec.ofNat 4 kind.code, length := BitVec.ofNat 5 payload.length
      fingerprint := 0x4321, digest := 0, payload := payload, crc := 0 }
  { frame := { bare with crc := crcBits (frameCover bare) }, cls := .foreign, content := none }

set_option maxRecDepth 100000 in
/-- TakenFramesRenewLeases: a beacon that names a segment this map does not have, and a LAPSE of a station outside this roster beside one in it,
both taken under a good CRC, in ACTIVE and in LISTEN. -/
theorem test_hyps_renew_unreadable :
    let beacon := unreadable .beacon [0x40, 1, 50, 0, 0, 0, 0, 0, 0, 0, 0, 0]
    let lapse := unreadable .lapse [0x06, 0x40, 0x00, 0x00]
    ∀ r ∈ [beacon, lapse], ∀ s ∈ [carriage, listening carriage freshListen],
      frameContent s.opr.map s.roster r.frame = none ∧ frameCrcGood r.frame = true ∧ r.cls ≠ .faulty ∧ s.classOf r.frame = .foreign ∧
        AtTaken (atVerdict s r) (otherLine (some r) (some false)) r twoSlots ∧ (r.heard s.roster).isSome = true := by
  unfold AtTaken
  decide +kernel

set_option maxRecDepth 100000 in
/-- ListenersLearnTakenFrames: served and agreed, served and not agreed, not served; a miss, and a FOREIGN frame served and agreed or not. -/
theorem test_hyps_listeners :
    let r := goodFrame carriage 22 (.clear [31])
    let foreign : Received := { frame := sealFrame 22 0x4321#16 0 (.clear [31]), cls := .foreign, content := some (.clear [31]) }
    (listening carriage freshListen).mbu.station = .listen ∧ (listening carriage freshListen).mbu.listen = some freshListen ∧
      r.cls = .good ∧ r.content = some (.clear [31]) ∧
      r.frame.digest = digest carriage.ctu ∧
      { freshListen with served := true, timer := none }.served = true ∧
      (goodFrame moving 22 (.clear [31])).frame.digest ≠ digest carriage.ctu ∧ freshListen.served = false ∧
      { r with cls := .faulty }.ofKind .clear = true ∧ foreign.ofKind .clear = true ∧ freshListen.agreed = false ∧
      { freshListen with served := true, agreed := true, timer := none }.agreed = true ∧
      frameCrcGood foreign.frame = true ∧ foreign.frame.fingerprint ≠ mapFingerprint carriage.opr.map ∧
      frameStation foreign.frame ≠ carriage.me := by decide +kernel

/-- ClaimWinsOrChangesNothing: a bundle won at exactly twelve held, lost at thirteen, lost on a held segment, reclaimed from BLOCKED. -/
theorem test_hyps_claim_rule :
    let six := [(0 : Seg), 1, 2, 3, 4, 5].map fun i => ({ seg := i, required := none } : BundleEntry)
    let some6 : Table := tab fun i => { claim := if 10 ≤ i.val ∧ i.val < 16 then .held 4 none else .free, reported := none }
    let some7 : Table := tab fun i => { claim := if 10 ≤ i.val ∧ i.val < 17 then .held 4 none else .free, reported := none }
    let blocked : Table := tab fun _ => { claim := .blocked .lapse, reported := none }
    distinct (six.map (·.seg)) = true ∧ holdCount some6 4 + six.length ≤ 12 ∧
      (six.all fun e => some6[e.seg].claim == .free) = true ∧ ¬holdCount some7 4 + six.length ≤ 12 ∧
      (12 : Seg) ∉ six.map (·.seg) ∧ some6[(12 : Seg)].claim ≠ .free ∧
      (six.all fun e => blocked[e.seg].isBlocked) = true ∧ holdCount blocked 4 + six.length ≤ 12 := by decide +kernel

/-- ReportedLies and BeaconIsLearned: the owner and another station; listed, blocked, held and free segments. -/
theorem test_hyps_lies_and_learning :
    let map := carriage.opr.map
    (mapRec map 34).owner = some 22 ∧ (mapRec map 34).owner ≠ some 9 ∧ (30 : Seg) ∉ [(34 : Seg)] ∧ [(34 : Seg)].Nodup ∧
      segHas (segOne 31) 31 = true ∧ segHas (segOne 31) 32 = false ∧ (exampleTable 3)[(31 : Seg)].isBlocked = false ∧
      (exampleTable 3)[(32 : Seg)].holder = some 6 ∧ (exampleTable 3)[(40 : Seg)].holder ≠ some 6 ∧
      ((exampleTable 3).set 31 { claim := .blocked .guard, reported := none })[(31 : Seg)].isBlocked = true ∧
      (onePayloads.filter fun p => decide (p.kind ≠ .beacon)).length = 7 := by decide +kernel

/-! ### Timers of the membership unit -/

/-- ListenTimers: heard and not agreed, not heard, agreed. -/
theorem test_hyps_listen_timers :
    freshListen.timer.isSome = true ∧ freshListen.heard = false ∧ { freshListen with heard := true }.heard = true ∧
      { freshListen with heard := true }.agreed = false ∧ { freshListen with heard := true, agreed := true }.agreed = true ∧
      (listening carriage freshListen).inReset = false := by decide +kernel

/-- The carriage with the record of one peer. -/
def withPeer (s : State) (k : Station) (p : Peer) : State := s.setMbu { s.mbu with peers := tabSet s.mbu.peers k p }

/-- RemoteLeasesAndBeaconTimer: a peer that holds, one that owns, one that is LAPSING, one without track; the beacon timer. -/
theorem test_hyps_remote_leases :
    let present : Peer := { presence := .present, role := none, lease := some 1, foreign := false }
    let lapsing : Peer := { presence := .lapsing, role := none, lease := some 1, foreign := false }
    (withPeer wayside 9 present).mbu.peers[(9 : Station)] = present ∧ present.lease.isSome = true ∧
      0 < holdCount ((withPeer wayside 6 present).setCtu (exampleTable 3)).ctu 6 ∧
      ((withPeer carriage 22 present).seg 34).owner = some 22 ∧ (withPeer carriage 9 lapsing).mbu.peers[(9 : Station)] = lapsing ∧
      holdCount (withPeer carriage 9 present).ctu 9 = 0 ∧ (∀ i, ((withPeer carriage 9 present).seg i).owner ≠ some 9) ∧
      carriage.mbu.beacon.isSome = true ∧ carriage.online = true := by decide +kernel

/-- ListenTimers: the entry to ANNOUNCE with one peer LAPSING, and with none. -/
theorem test_hyps_announce_lapses :
    let alone := listening carriage freshListen
    let lapsing := withPeer alone 22 { presence := .lapsing, role := none, lease := some 100, foreign := false }
    alone.txq.entries = [] ∧ lapsing.txq.entries = [] ∧
      (∀ k : Station, stationHas 0 k = true ↔ 1 ≤ k.val ∧ k.val ≤ 30 ∧ alone.mbu.peers[k].presence = .lapsing) ∧
      (∀ k : Station, stationHas (stationOne 22) k = true ↔
        1 ≤ k.val ∧ k.val ≤ 30 ∧ lapsing.mbu.peers[k].presence = .lapsing) ∧
      (after (exec .listenTimerExpiry lapsing)).map (·.txq.entries.map (·.args)) =
        some [.beacon, .stations (stationOne 22)] := by decide +kernel

/-! ### The route engine -/

/-- LocateSetsTheOccupancy: unplaced at the far end of pad 30, halted with a tail at the last offset; the head not held. -/
theorem test_hyps_locate :
    carriage.inReset = false ∧ carriage.role = some .carriage ∧ carriage.mbu.station = .active ∧
      carriage.rte.state = .unplaced ∧ (400#24).toNat ≤ 65535 ∧ (carriage.seg 30).defined = true ∧
      (400#24).toNat ≤ (carriage.seg 30).length ∧ (30 : Seg) ∉ carriage.rte.heldSegs ∧ carriage.rte.claim = none ∧
      carriage.txq.find .claim = none ∧ (routed .halted 3 true 4).rte.state = .halted ∧ (35 : Seg) ≠ 34 ∧
      (carriage.seg 35).defined = true ∧ meetings carriage.opr.map 35 34 ≠ [] ∧
      (349#24).toNat < carriage.option (·.carriageLength) ∧ (35 : Seg) ∉ (routed .halted 3 true 4).rte.heldSegs ∧
      (parked).rte.state = .parked ∧ (31 : Seg) ∉ parked.rte.heldSegs := by decide +kernel

/-- Halted with steps 0 to h held, and a claim outstanding that waits or is in flight. -/
def haltedClaiming (h : Nat) (flight : Option Flight) : State :=
  (withEntry (routed .halted h true 4) { flyingEntry .claim (.claim false [⟨34, none⟩] 6) false with flight := flight }).setRte
    { (routed .halted h true 4).rte with
      claim := some { placement := false, reclaim := false, bundle := [⟨34, none⟩], tag := 6, first := 4, withdrawn := false } }

/-- LocateSetsTheOccupancy: at head 35 with tail 34, of which neither, or both, are held, with held segments outside; a claim outstanding in the queue
and in flight. -/
theorem test_hyps_locate_tail :
    let now : List Seg := [34, 35]
    let missing := fun s : State => now.filter fun seg => !s.rte.heldSegs.contains seg
    let waiting := haltedClaiming 3 none
    let flying := haltedClaiming 3 (some { pending := none, withdrawn := false })
    ArgsLaw waiting ∧ ArgsLaw flying ∧ ArgsLaw (routed .halted 6 true 4) ∧
      now = (some (34 : Seg)).toList ++ [35] ∧ missing waiting = [34, 35] ∧ missing (routed .halted 6 true 4) = [] ∧
      (32 : Seg) ∈ waiting.rte.heldSegs ∧ (32 : Seg) ∉ now ∧ waiting.rte.state = .halted ∧ waiting.mbu.station = .active ∧
      waiting.rte.claim.isSome = true ∧ (waiting.txq.find .claim).map (·.flight) = some none ∧
      (flying.txq.find .claim).map (·.flight) = some (some { pending := none, withdrawn := false }) ∧
      flying.rte.claim.map (·.placement) = some false ∧ (routed .halted 6 true 4).rte.claim = none :=
  ⟨argsLaw_of (by decide +kernel), argsLaw_of (by decide +kernel), argsLaw_of (by decide +kernel), by decide +kernel⟩

/-- R111: the placement claim of what is not held takes the place of the one that waited, what is held outside the occupancy is released; with
everything held the carriage is placed at once. -/
theorem test_locate_tail :
    (after (exec (.locate 35 100 (some 34)) (haltedClaiming 3 none))).map
        (fun t => (t.rte.state, t.rte.claim.map (·.bundle), (t.txq.find .release).map (·.args))) =
      some (RteState.placing, some [⟨34, none⟩, ⟨35, none⟩], some (Args.segs (segSetOf [30, 31, 32, 33]))) ∧
    (after (exec (.locate 35 100 (some 34)) (routed .halted 6 true 4))).map (fun t => (t.rte.state, t.rte.claim.isSome)) =
      some (RteState.halted, false) := by decide +kernel

/-- LoadRouteFillsTheQueue: a legal route of two and of seven segments, and one of one segment, in LISTEN, ANNOUNCE and ACTIVE; the empty list and
seventeen segments; a fork; what a chain that meets once is and is not. (test_route_faults has the other reasons.) -/
theorem test_hyps_load_route :
    parked.inReset = false ∧ parked.role = some .carriage ∧ parked.rte.state = .parked ∧ parked.tail = none ∧
      parked.rte.holds = [{ seg := 30, held := true, formerly := false }] ∧ parked.head = some 30 ∧
      (at_ parked .announce).mbu.station = .announce ∧
      ((resolveRoute parked.opr.map parked.head [30, 31]).toOption.map List.length) = some 2 ∧
      ((resolveRoute parked.opr.map parked.head [30, 31, 32, 33, 34, 35, 36]).toOption.map List.length) = some 7 ∧
      [[30], [], List.replicate 17 30].map (fun segs =>
        match resolveRoute parked.opr.map parked.head segs with
        | .error r => some r
        | .ok _ => none) = [some .routeSize, some .routeSize, some .routeSize] ∧
      (match resolveRoute (some ringMap) (some 1) [1, 2] with
        | .error r => some r
        | .ok _ => none) = some .routeFork ∧
      (meetings (some ringMap) 1 2).length = 2 ∧ meetings (some smallMap) 2 4 = [] ∧
      [(2, 3), (3, 6)].map (fun (p : Seg × Seg) => (meetings (some smallMap) p.1 p.2).length) = [1, 1] ∧
      (passageLie (mapRec (some smallMap) 3) 1 2).isSome = false := by decide +kernel

/-- The engine of `parked` with the route from pad 30 to 36 loaded. -/
def loaded (s : State) : State :=
  match resolveRoute s.opr.map s.head [30, 31, 32, 33, 34, 35, 36] with
  | .ok (st :: rest) => s.setRte { s.rte with
      state := .routed, route := { st with held := true } :: rest, holds := [], committedLimit := some 0, misses := 0 }
  | _ => s

/-- LoadRouteFillsTheQueue, the planner: ACTIVE, with a bundle to queue; not ACTIVE, with a claim outstanding, with a hold-off running, and at
twelve segments held, it queues nothing. -/
theorem test_hyps_load_route_planned :
    let full := parked.setCtu (exampleTable 11)
    let claimed := parked.setRte { parked.rte with
      claim := some { placement := true, reclaim := false, bundle := [⟨30, none⟩], tag := 9, first := 0, withdrawn := true } }
    let claimAfter := fun s : State => (after (exec (.loadRoute [30, 31, 32, 33, 34, 35, 36]) s)).map fun t =>
      (t.rte.claim.map (·.bundle.map (·.seg)), t.rte.tagCounter, t.txq.entries.length)
    parked.mbu.station = .active ∧ parked.rte.claim = none ∧ parked.rte.holdOff = none ∧ parked.txq.find .claim = none ∧
      (loaded parked).bundle.map (fun st => (st.num, st.seg)) = [(1, 31), (2, 32), (3, 33)] ∧
      claimAfter parked = some (some [31, 32, 33], 1, 1) ∧
      argsAfter (.loadRoute [30, 31, 32, 33, 34, 35, 36]) parked = some [.claim false [⟨31, none⟩, ⟨32, none⟩, ⟨33, none⟩] 0] ∧
      (loaded full).bundle.isEmpty = true ∧ claimAfter full = some (none, 0, 0) ∧ claimed.rte.claim.isSome = true ∧
      claimAfter claimed = some (some [30], 0, 0) ∧ claimAfter (at_ parked .announce) = some (none, 0, 0) ∧
      claimAfter (parked.setRte { parked.rte with holdOff := some 32 }) = some (none, 0, 0) := by decide +kernel

/-- HoldOffExpiryQueuesTheNextClaim: the steps through the refuge in one bundle. -/
theorem test_hyps_hold_off :
    let s := (routed .routed 0 false 1).setRte { (routed .routed 0 false 1).rte with holdOff := some 32 }
    s.inReset = false ∧ s.rte.holdOff.isSome = true ∧ s.role = some .carriage ∧ s.mbu.station = .active ∧ s.rte.claim = none ∧
      s.txq.find .claim = none ∧ s.rte.state ≠ .placing ∧
      (s.setRte { s.rte with holdOff := none }).bundle.map (fun p => (p.num, p.seg)) = [(1, 31), (2, 32), (3, 33)] := by
  decide +kernel

/-- An outstanding claim of one segment. -/
def outstanding : Outstanding :=
  { placement := false, reclaim := false, bundle := [{ seg := 31, required := none }], tag := 6, first := 1, withdrawn := false }

/-- The route engine's counts of losses. -/
def withLosses (misses : Nat) (last : Option Seg) : State :=
  carriage.setRte { carriage.rte with misses := misses, lastLost := last }

/-- BundlesAndLosses: a front beyond the steps held, a room of none, a front past the claim-ahead step; a rest of each sort; another bundle, the
sixth and the seventh loss before this one. -/
theorem test_hyps_losses :
    let s := routed .routed 0 false 1
    moving.rte.state ≠ .placing ∧ outstanding.bundle = [{ seg := 31, required := none }] ∧
      (s.planItems.find? fun p => !p.held).map (·.num) = some 1 ∧ holdCount s.ctu s.me < 12 ∧
      1 ≤ s.headNum.getD 0 + s.option (·.claimAhead) ∧ s.bundle.map (·.num) = [1, 2, 3] ∧
      (s.planItems.dropWhile (·.held)).map (·.num) = [1, 2, 3, 4, 5, 6] ∧ (s.seg 33).isRefuge = true ∧
      moving.planItems.find? (fun p => !p.held) = none ∧ moving.bundle = [] ∧
      (withLosses 7 (some 32)).rte.lastLost ≠ some 31 ∧ (withLosses 6 (some 31)).rte.lastLost = some 31 ∧
      (withLosses 6 (some 31)).rte.misses ≠ 7 ∧ (withLosses 7 (some 31)).rte.misses = 7 := by decide +kernel

/-- Step 4 of the example. -/
def turnoutStep : Step :=
  { num := 4, seg := 34, entryEnd := some 0, exitEnd := some 2, required := some .reverse, held := true, formerly := false
    confirmed := false, committed := false, tag := some 9, lieWait := some 1 }

/-- The report on a LIE of turnout 34. -/
def lieReport (lie : Lie) (cause : LieCause) (tag : Tag) : Report :=
  { sender := 22, content := .lie 34 lie cause (some (6, tag)), outcome := none, accepted := true, changes := []
    lies := [{ seg := 34, old := .unknown, new := lie }] }

/-- LiesConfirmSteps: a segment won, lost and given to another station; a DONE with the step's tag, a REPORT with the tag byte 0, another tag, a
FAILED; a running lie-wait timer. -/
theorem test_hyps_lies_confirm :
    let changed : Claim → Claim → Report := fun old new => { lieReport .reverse .done 9 with changes := [{ seg := 34, old := old, new := new }] }
    let held : Claim := .held 6 (some .reverse)
    (changed .free held).change turnoutStep.seg = some { seg := 34, old := .free, new := held } ∧
      (changed held (.blocked .lapse)).change turnoutStep.seg = some { seg := 34, old := held, new := .blocked .lapse } ∧
      (changed .free (.held 9 none)).change turnoutStep.seg = some { seg := 34, old := .free, new := .held 9 none } ∧
      (changed .free held).change 33 = none ∧
      turnoutStep.required = some .reverse ∧ turnoutStep.tag = some 9 ∧ (lieReport .reverse .done 9).accepted = true ∧
      pointsLie .reverse = .reverse ∧ turnoutStep.confirm 6 (lieReport .reverse .done 9) ≠ turnoutStep ∧
      turnoutStep.confirm 6 (lieReport .reverse .report 0) ≠ turnoutStep ∧
      turnoutStep.confirm 6 (lieReport .reverse .done 8) = turnoutStep ∧
      (∃ ch ∈ (lieReport .failed .lockLost 9).lies, ch.seg = turnoutStep.seg ∧ ch.new ≠ pointsLie .reverse) ∧
      (∀ ch ∈ (lieReport .reverse .done 9).lies, ch.seg = turnoutStep.seg → ch.new = pointsLie .reverse) ∧
      { turnoutStep with confirmed := true }.unconfirm (lieReport .reverse .done 9) = { turnoutStep with confirmed := true } ∧
      { turnoutStep with required := none }.required = none ∧
      (moving.setRte { moving.rte with route := [turnoutStep] }).rte.route = [] ++ turnoutStep :: [] ∧
      turnoutStep.lieWait.isSome = true := by decide +kernel

theorem test_hyps_lie_wait_order : RouteLaw (moving.setRte { moving.rte with route := [turnoutStep] }) :=
  List.pairwise_singleton _ _

/-- The final step of a route, with nothing before it. -/
def lastStep : Step :=
  { num := 6, seg := 36, entryEnd := some 0, exitEnd := none, required := none, held := true, formerly := false
    confirmed := false, committed := true, tag := some 9, lieWait := none }

/-- MOVING on the final step with no tail. -/
def atTheEnd : State :=
  { moving with
    rte := { moving.rte with route := [lastStep], committedLimit := some 6 }
    pos := { moving.pos with place := some { head := 36, tail := none, offset := 400, boundary := some (35, 36), creep := 0 } } }

/-- CancelAndDocked: MOVING and HALTED with a limit, ROUTED, and at the end of the route. -/
theorem test_hyps_cancel_docked :
    moving.inReset = false ∧ moving.role = some .carriage ∧ moving.rte.committedLimit = some 3 ∧ moving.rte.state = .moving ∧
      (routed .halted 6 true 4).rte.state = .halted ∧ (routed .routed 6 true 1).rte.state = .routed ∧
      (listening moving freshListen).mbu.station = .listen ∧ atTheEnd.rte.state = .moving ∧ atTheEnd.tail = none ∧
      atTheEnd.rte.route = [] ++ [lastStep] ∧ atTheEnd.head = some lastStep.seg ∧ lastStep.held = true ∧
      ((routed .routed 6 true 1).rte.route.filter fun st => !(routed .routed 6 true 1).rte.beyondLimit st) ≠ [] ∧
      (([] : List Step).filter fun st => !(routed .routed 6 true 1).rte.beyondLimit st) = [] := by decide +kernel

/-- A state with STOP asserted and the KEEP timer as given. -/
def stopped (s : State) (keep : Option Nat) (fault : Option PosFault) : State :=
  (s.setMou { s.mou with stop := true, keep := keep }).setPos { s.pos with fault := fault }

/-- R108, R124, R138: CANCEL in ROUTED, and a RESUME with no step ahead, give the head step's flags to its occupancy hold. -/
theorem test_holds_when_parked :
    let holds := fun (i : Instr) (s : State) => (after (exec i s)).map fun t => (t.rte.state, t.rte.holds)
    let ended := stopped { atTheEnd with rte := { atTheEnd.rte with state := .halted } } (some 1) none
    holds .cancel (routed .routed 6 true 1) = some (.parked, [{ seg := 30, held := true, formerly := false }]) ∧
      holds .resume ended = some (.parked, [{ seg := 36, held := true, formerly := false }]) ∧
      ended.committedBeyond = false ∧ ended.stepsAhead = false ∧ ended.rte.route ≠ [] ∧ committedValid ended.rte.route = true := by
  decide +kernel

/-- CancelAndDocked: steps beyond the committed limit held, with a claim outstanding in the queue and in flight. -/
theorem test_hyps_cancel_release :
    let waiting := haltedClaiming 5 none
    let flying := haltedClaiming 5 (some { pending := none, withdrawn := false })
    ArgsLaw waiting ∧ ArgsLaw flying ∧ waiting.rte.committedLimit = some 3 ∧ waiting.online = true ∧
      (∃ st ∈ waiting.rte.route, 3 < st.num ∧ st.held = true) ∧ waiting.rte.claim.isSome = true ∧
      (waiting.txq.find .claim).map (·.flight) = some none ∧ flying.rte.claim.isSome = true ∧
      (flying.txq.find .claim).map (·.flight) = some (some { pending := none, withdrawn := false }) ∧
      (after (exec .cancel waiting)).map (fun t => (t.rte.claim, t.txq.find .claim, (t.txq.find .release).map (·.args))) =
        some (none, none, some (.segs (segSetOf [34, 35]))) :=
  ⟨argsLaw_of (by decide +kernel), argsLaw_of (by decide +kernel), by decide +kernel⟩

/-- AuthorityLimit: to the refuge with the turnout unconfirmed, to the end of what is held with it confirmed; absent in LISTEN, parked, and with
the head step not held. -/
theorem test_hyps_authority :
    (routed .routed 6 false 1).authority = some 3 ∧ (routed .routed 5 true 1).authority = some 5 ∧
      (routed .routed 6 false 1).headNum = some 0 ∧ ((routed .routed 6 false 1).headStep.map (·.held)) = some true ∧
      (listening (routed .routed 6 false 1) freshListen).authority = none ∧ parked.authority = none ∧
      ((routed .routed 6 false 1).setRte { (routed .routed 6 false 1).rte with
        route := (routed .routed 6 false 1).rte.route.map fun st => { st with held := false } }).authority = none := by
  decide +kernel

theorem test_hyps_authority_order : RouteLaw (routed .routed 6 false 1) := by
  have h : ((routed .routed 6 false 1).rte.route.map (·.num)) = [0, 1, 2, 3, 4, 5, 6] := by decide +kernel
  unfold RouteLaw
  rw [h]
  decide

/-- AuthorityLimit, the offer rule: an offer asked for and none current, or one of another step; the current offer's own step; none asked for with
STOP asserted and on a parked carriage. -/
theorem test_hyps_offer_rule :
    let s := routed .routed 3 true 1
    let other := s.setRte { s.rte with offer := some { serial := 12, step := 2, distance := 1 } }
    s.offerable = some 3 ∧ s.rte.offer = none ∧ other.offerable = some 3 ∧ other.rte.offer.map (·.step) = some 2 ∧
      other.refreshOffer.rte.offer = some { serial := 13, step := 3, distance := 2700 } ∧ other.refreshOffer.rte.serial = 13 ∧
      other.refreshOffer.dpt.notices = [.offer 13 3 2700] ∧
      s.refreshOffer.offerable = some 3 ∧ s.refreshOffer.rte.offer.map (·.step) = some 3 ∧
      (s.setMou { s.mou with stop := true }).offerable = none ∧ parked.offerable = none ∧
      s.pos.place.isSome = true ∧ s.headNum = some 0 := by decide +kernel

/-- MOVING with steps 0 to 4 committed, turnout 34 reported REVERSE, and the offer that follows. -/
def movingPast : State :=
  let s := routed .moving 6 true 5
  (s.setCtu (s.ctu.set 34 { claim := .held 6 (some .reverse), reported := some .reverse })).refreshOffer

set_option maxRecDepth 100000 in
/-- TakenFramesMoveTheEngine: a refusing LIE for a step with its tag, which makes the lowest committed step not valid; a LAPSE that takes the
segments of all of them. -/
theorem test_hyps_engine_taken :
    let r := goodFrame movingPast 22 (.lie 34 .failed .timeout (some (6, 9)))
    let s := atVerdict movingPast r
    let report := fun p : Payload => reportOf s.opr.map s.ctu 22 p
    let follow := fun (p : Payload) (st : Step) =>
      ((st.follow s.me (1000 * s.option (·.lieWait)) (report p)).unconfirm (report p)).confirm s.me (report p)
    AtTaken s (otherLine (some r) (some false)) r twoSlots ∧ EngineLaw s ∧ ArgsLaw s ∧
      s.online = true ∧ s.role = some .carriage ∧ r.content = some (.lie 34 .failed .timeout (some (s.me, 9))) ∧
      (report (.lie 34 .failed .timeout (some (6, 9)))).accepted = true ∧
      (s.rte.route.map fun st => (st.seg, st.committed && st.valid, (follow (.lie 34 .failed .timeout (some (6, 9))) st).valid)) =
        [(30, true, true), (31, true, true), (32, true, true), (33, true, true), (34, true, false), (35, false, true),
         (36, false, true)] ∧
      (s.rte.route.map fun st => st.tag) = List.replicate 7 (some 9) ∧
      (s.rte.route.map fun st => ((follow (.lapse (stationOne 6)) st).held, (follow (.lapse (stationOne 6)) st).formerly)) =
        List.replicate 7 (false, true) := by
  refine ⟨by unfold AtTaken; decide +kernel, engineLaw_of (by decide +kernel), argsLaw_of (by decide +kernel), ?_⟩
  decide +kernel

/-- The verdict TAKEN on this station's own frame for a transmit entry. -/
def ownVerdict (s : State) (e : TxEntry) : State := onLine (withEntry s e) .slots (ownLine s e (some false))

set_option maxRecDepth 100000 in
/-- TakenFramesChangeTheTable, the transmit queue: a RELEASE taken with nothing pending leaves it, and with more pending stays with that, out of flight;
the same of a BEACON, a CLEAR and a GUARD; the entries that wait stay. -/
theorem test_hyps_taken_queue :
    let waiting : TxEntry := { key := .clear, args := .segs (segOne 31), age := 2, flight := none }
    let more : TxEntry := { releaseEntry with
      flight := some { pending := some { args := .segs (segOne 31), age := 5 }, withdrawn := false } }
    let beacon : TxEntry := flyingEntry .beacon .beacon false
    let s := fun e : TxEntry => (ownVerdict carriage e).setTxq { entries := [waiting, e], nextAge := 6 }
    let queueAfter := fun (i : Instr) (s : State) => (after (exec i s)).map (·.txq.entries)
    (s releaseEntry).txq.flying = some releaseEntry ∧ (s more).txq.flying = some more ∧ (s beacon).txq.flying = some beacon ∧
      more.key ≠ .lapse ∧ (s more).txq.find .clear = some waiting ∧ waiting.key ≠ more.key ∧
      (s more).liu.line.any (·.own.isSome) = true ∧
      queueAfter (.releaseTaken twoSlots) (s releaseEntry) = some [waiting] ∧
      queueAfter (.releaseTaken twoSlots) (s more) =
        some [waiting, { key := .release, args := .segs (segOne 31), age := 5, flight := none }] ∧
      queueAfter (.beaconTaken twoSlots) (s beacon) = some [waiting] := by decide +kernel

/-- ROUTED on pad 30 with a claim of segment 31, and of 31 and 40, which the route no longer has, outstanding. -/
def claimingRoute (withdrawn : Bool) : State :=
  (routed .routed 0 false 0).setRte { (routed .routed 0 false 0).rte with
    claim := some { outstanding with bundle := [⟨31, none⟩, ⟨40, none⟩], withdrawn := withdrawn } }

/-- PLACING on pad 30, not yet held, with the placement reclaim outstanding; LOCATE found the engine HALTED or not. -/
def placing (halted : Bool) : State :=
  { carriage with
    rte := { State.reset.rte with
      state := .placing, locatedHalted := halted, holds := [{ seg := 30, held := false, formerly := false }]
      claim := some { placement := true, reclaim := true, bundle := [⟨30, none⟩], tag := 0, first := 0, withdrawn := false } }
    pos := { State.reset.pos with place := some { head := 30, tail := none, offset := 100, boundary := none, creep := 0 } } }

/-- The claim rows of TakenFramesMoveTheEngine: the entry in flight, and what the table makes of it. -/
def ownOutcome (s : State) (p : Payload) : Option ClaimOutcome := (reportOf s.opr.map s.ctu s.me p).outcome

set_option maxRecDepth 100000 in
/-- TakenFramesMoveTheEngine: an own claim that wins, and that loses withdrawn and not; a placement that wins and that loses; the first, seventh
and eighth loss; the own announce with the occupancy kept. -/
theorem test_hyps_engine_claims :
    let fresh := flyingEntry .claim (.claim false [⟨31, none⟩, ⟨40, none⟩] 6) false
    let reclaim := flyingEntry .claim (.claim true [⟨30, none⟩] 0) false
    let lost := fun (s : State) (seg : Seg) => s.setCtu (s.ctu.set seg { claim := .held 9 none, reported := none })
    let kept := at_ ((placing false).setRte { (placing false).rte with state := .unplaced, claim := none }) .announce
    let announce := flyingEntry .beacon .beacon false
    [claimingRoute false, claimingRoute true].map (fun s => (ownOutcome s ((ownVerdict s fresh).payloadOf fresh),
        ownOutcome (lost s 31) ((ownVerdict s fresh).payloadOf fresh))) =
      [(some .win, some (.loss .held)), (some .win, some (.loss .held))] ∧
      [placing false, placing true].map (fun s => (ownOutcome s ((ownVerdict s reclaim).payloadOf reclaim),
        ownOutcome (lost s 30) ((ownVerdict s reclaim).payloadOf reclaim))) =
      [(some .win, some (.loss .held)), (some .win, some (.loss .held))] ∧
      AtTaken (ownVerdict (claimingRoute false) fresh) (ownLine (claimingRoute false) fresh (some false))
        ((claimingRoute false).ownFrame fresh).received twoSlots ∧
      (∀ s ∈ [ownVerdict (claimingRoute false) fresh, ownVerdict (lost (claimingRoute true) 31) fresh,
          ownVerdict (placing false) reclaim, ownVerdict (lost (placing true) 30) reclaim, ownVerdict kept announce],
        EngineLaw s ∧ ArgsLaw s) ∧
      (ownVerdict (claimingRoute false) fresh).txq.flying = some fresh ∧ fresh.flight.isSome = true ∧
      (placing false).head = some 30 ∧ (claimingRoute false).rte.lastLost ≠ some 31 ∧
      [6, 7].map (fun (n : Nat) => let rte : Rte := { (claimingRoute false).rte with misses := n, lastLost := some 31 }
        (decide (rte.lastLost = some 31), decide (rte.misses = 7))) = [(true, false), (true, true)] ∧
      kept.mbu.station = .announce ∧ kept.rte.state = .unplaced ∧ kept.pos.place.isSome = true ∧ kept.rte.claim = none ∧
      kept.rte.holdOff = none ∧ (ownVerdict kept announce).txq.find .claim = none ∧
      (∃ h ∈ kept.rte.holds, h.held = false) ∧
      (kept.ownFrame announce).payload = .beacon true .carriage [] 0 [] := by
  refine ⟨by decide +kernel, by decide +kernel, by unfold AtTaken; decide +kernel, fun s hs => ?_, by decide +kernel⟩
  have both : keepsEngineLaw s = true ∧ keepsArgsLaw s = true := by
    revert s
    decide +kernel
  exact ⟨engineLaw_of both.1, argsLaw_of both.2⟩

/-- Carriage 6 ROUTED with offer 12 of step 3 current. -/
def offered : State :=
  let s := routed .routed 3 true 1
  s.setRte { s.rte with offer := some { serial := 12, step := 3, distance := s.distance 3 } }

/-- TakeCommitsTheOffer: the current offer, another serial, no offer. -/
theorem test_hyps_take :
    offered.inReset = false ∧ offered.role = some .carriage ∧ offered.mbu.station = .active ∧ offered.rte.state = .routed ∧
      offered.rte.offer = some { serial := 12, step := 3, distance := 2700 } ∧ offered.headNum = some 0 ∧
      offered.offerable = some 3 ∧ (13 : Byte) ≠ 12 ∧ (routed .moving 3 true 4).rte.offer = none := by decide +kernel

/-- ResumeReleasesStop: STOP released, KEEP stopped, a fault, a committed step not valid, and each way on. -/
theorem test_hyps_resume :
    moving.mou.stop = false ∧ moving.rte.state = .moving ∧ (stopped moving none none).mou.keep = none ∧
      (stopped moving (some 0) none).mou.keep.isSome = true ∧
      (stopped moving (some 0) (some ⟨.overrun, 33, 34⟩)).pos.fault.isSome = true ∧
      committedValid (routed .halted 2 true 4).rte.route = false ∧ committedValid (routed .halted 3 true 4).rte.route = true ∧
      (routed .halted 3 true 4).rte.state = .halted ∧ (routed .halted 3 true 4).committedBeyond = true ∧
      (routed .halted 3 true 1).committedBeyond = false ∧ (routed .halted 3 true 1).stepsAhead = true ∧
      ((routed .halted 3 true 1).setRte { (routed .halted 3 true 1).rte with route := [] }).stepsAhead = false ∧
      ((routed .halted 3 true 1).setRte { (routed .halted 3 true 1).rte with route := [] }).committedBeyond = false ∧
      (stopped parked (some 1) none).rte.state = .parked := by decide +kernel

/-! ### Motion and position -/

/-- MOVING with the head at an offset of segment 33, the committed end. -/
def movingOn33 (offset : Nat) : State :=
  moving.setPos { moving.pos with place := some { head := 33, tail := none, offset := offset, boundary := none, creep := 0 } }

/-- SpeedCapTable: both sides of each threshold; the example's distances. -/
theorem test_hyps_speed_cap :
    moving.opr.options = some (exampleOptions 6 .carriage) ∧ moving.rte.committedLimit = some 3 ∧ moving.mou.stop = false ∧
      moving.rte.state = .moving ∧ parked.rte.state ≠ .moving ∧ (stopped moving none none).mou.stop = true ∧
      [600, 599, 301, 300].map (fun o => ((movingOn33 o).distance 3, (movingOn33 o).duty)) = [(0, 0), (1, 3), (299, 3), (300, 6)] ∧
      [0, 2000, 2001, 200, 201].map (fun d => dutyOf (exampleOptions 6 .carriage) (1199 + d)) = [6, 16, 16, 10, 10] ∧
      dutyOf (exampleOptions 6 .carriage) 1200 = 10 ∧ dutyOf (exampleOptions 6 .carriage) 2999 = 10 ∧
      dutyOf (exampleOptions 6 .carriage) 3000 = 16 ∧ moving.distance 3 = 2700 ∧ moving.duty = 10 := by decide +kernel

/-- PeriodsAndKeep: KEEP in ACTIVE, LISTEN; an expiry MOVING and parked, with STOP released and asserted. -/
theorem test_hyps_keep :
    moving.opr.options = some (exampleOptions 6 .carriage) ∧ (exampleOptions 6 .carriage).role = .carriage ∧
      moving.mbu.station = .active ∧ (listening moving freshListen).mbu.station = .listen ∧ moving.mou.keep.isSome = true ∧
      moving.rte.state = .moving ∧ (stopped parked (some 0) none).mou.keep.isSome = true ∧ parked.rte.state ≠ .moving := by
  decide +kernel

/-- A placed carriage in an engine state. -/
def placed (state : RteState) (tail : Option Seg) (offset creep : Nat) : State :=
  let s := routed state 6 true 4
  s.setPos { s.pos with place := some { head := 31, tail := tail, offset := offset, boundary := some (30, 31), creep := creep } }

/-- OdometerCounts: a count within the margin and one past it, MOVING and halted, at the creep limit and below it, with a tail not yet cleared. -/
theorem test_hyps_odometer :
    (placed .moving none 1099 0).inReset = false ∧ (placed .moving none 1099 0).tracking = true ∧
      (placed .moving none 1099 0).pos.odometer = false ∧
      ((placed .moving none 0 0).setPos { (placed .moving none 0 0).pos with odometer := true }).pos.odometer = true ∧
      carriage.pos.place = none ∧ carriage.tracking = true ∧ (stopped moving none (some ⟨.creep, 30, 41⟩)).pos.fault.isSome = true ∧
      min (1099 + 1) 16777215 ≤ ((placed .moving none 1099 0).seg 31).length + (placed .moving none 1099 0).option (·.overrunMargin) ∧
      ((placed .moving none 1100 0).seg 31).length + (placed .moving none 1100 0).option (·.overrunMargin) < min (1100 + 1) 16777215 ∧
      (39 : Nat) < (placed .halted none 5 39).option (·.creepLimit) ∧ (placed .halted none 5 40).option (·.creepLimit) ≤ 40 ∧
      (placed .halted none 5 40).rte.state ≠ .moving ∧ (placed .moving (some 30) 348 0).tail.isSome = true ∧
      348 + 1 < (placed .moving (some 30) 348 0).option (·.carriageLength) := by decide +kernel

/-- TailIsReleased: the count that reaches the carriage length, with a route loaded and without. -/
theorem test_hyps_tail :
    let s := placed .moving (some 30) 349 0
    let bare := s.setRte { State.reset.rte with
      state := .halted, holds := [{ seg := 30, held := true, formerly := false }, { seg := 31, held := true, formerly := false }] }
    ArgsLaw s ∧ ArgsLaw bare ∧
      s.inReset = false ∧ s.tracking = true ∧ s.pos.fault = none ∧ s.pos.odometer = false ∧
      s.option (·.carriageLength) ≤ 349 + 1 ∧ (349 : Nat) < 16777215 ∧ s.tail = some 30 ∧ s.online = true ∧
      (s.rte.route.head?.map fun st => (st.num, st.seg, st.held)) = some (0, 30, true) ∧
      bare.rte.route = [] ∧ bare.tracking = true ∧ bare.tail = some 30 := by
  refine ⟨argsLaw_of (by decide +kernel), argsLaw_of (by decide +kernel), ?_⟩
  decide +kernel

/-- TagsMoveTheHead: a bad tag, a repeat, a match committed and not, another tag, outside MOVING, not placed. -/
theorem test_hyps_tags :
    moving.tracking = true ∧ tagBad 0x7E0B#16 true = true ∧ tagBad 0x79F0#16 true = false ∧ carriage.pos.place = none ∧
      moving.pos.fault = none ∧ samePair (tagFrom 0x79F0#16, tagTo 0x79F0#16) (30, 31) = true ∧
      samePair (tagFrom 0x7E0A#16, tagTo 0x7E0A#16) (30, 31) = false ∧
      ((moving.matched (tagFrom 0x79F0#16, tagTo 0x79F0#16)).map fun st => (st.num, st.committed)) = some (1, true) ∧
      (((movingOn33 600).matched (tagFrom 0x862F#16, tagTo 0x862F#16)).map fun st => (st.num, st.committed)) = some (4, false) ∧
      moving.matched (tagFrom 0x7E0A#16, tagTo 0x7E0A#16) = none ∧ parked.rte.state ≠ .moving := by decide +kernel

/-- MOVING on segment 35 with every step committed, and the tail on turnout 34 or none. -/
def beforeTheEnd (tail : Option Seg) : State :=
  let s := routed .moving 6 true 7
  let t := s.setRte { s.rte with route := s.rte.route.drop 4 }
  t.setPos { t.pos with place := some { head := 35, tail := tail, offset := 990, boundary := some (34, 35), creep := 0 } }

/-- TagsMoveTheHead: the advance onto the final step with a tail still held behind, and without. -/
theorem test_hyps_tags_final :
    let pair := (tagFrom 0x8E45#16, tagTo 0x8E45#16)
    ∀ s ∈ [beforeTheEnd (some 34), beforeTheEnd none],
      tagBad 0x8E45#16 true = false ∧ s.tracking = true ∧ s.online = true ∧ s.rte.state = .moving ∧
        (s.pos.place.bind (·.boundary)).all (fun b => !samePair pair b) = true ∧ s.txq.entries = [] ∧
        (s.matched pair).map (fun st => (st.num, st.committed)) = some (6, true) ∧ s.rte.isFinal 6 = true ∧
        s.rte.route.map (fun st => (st.seg, st.held)) = [(34, true), (35, true), (36, true)] ∧
        (after (exec (.tagReceived false 0x8E45#16 true) s)).map
            (fun t => (t.rte.route.map (·.num), t.dpt.notices.contains (.arriving 6 36), (t.txq.find .release).map (·.args))) =
          some (if s.tail.isSome then ([5, 6], true, some (.segs (segOne 34))) else ([4, 5, 6], true, none)) := by decide +kernel

/-- Chapter 8: the first boundary of the example, and the run onto the turnout. -/
theorem test_boundary_crossing :
    (after (exec (.tagReceived false 0x79F0#16 true) moving)).map (fun t => (t.head, t.tail, t.mou.next, t.distance 3)) =
        some (some 31, some 30, 10, 2400) ∧
      (after (exec (.tagReceived false 0x862F#16 true) (movingOn33 600))).map
          (fun t => (t.rte.state, t.mou.stop, t.dpt.notices)) =
        some (RteState.halted, true, [Notice.position ⟨.overrun, 33, 34⟩, Notice.halted .position 3]) := by decide +kernel

/-! ### Turnouts -/

/-- The record of turnout 34. -/
def turnout (lie : Lie) (target : Option Points) : Record :=
  { seg := 34, lie := lie, target := target, answer := none, followOn := none, throwTimer := none, motor := .off }

/-- DetectorsAndTimeoutEndThrows: a lock that lets go, both locks shown, a lock shown in UNKNOWN, one of both let go in FAILED, a throw that ends,
a throw that shows both, a timeout without and with a follow-on whose claim stands and does not. -/
theorem test_hyps_detectors :
    wayside.inReset = false ∧ wayside.watching = true ∧ wayside.toc.records[(0 : Position).val]? = some (turnout .normal none) ∧
      wayside.position 34 = some 0 ∧ (turnout .normal none).lie = pointsLie .normal ∧
      (wayside.toc.inputs[(0 : Position)].lock .normal).level = true ∧
      (wayside.toc.inputs[(0 : Position)].lock (pointsOther .normal)).level = false ∧
      (waysideAt false false false .failed none).toc.records[0]? = some (turnout .failed none) ∧
      ((waysideAt false false false .unknown none).toc.inputs[(0 : Position)].lock .reverse).level = false ∧
      ((waysideAt false false false .unknown none).toc.inputs[(0 : Position)].lock (pointsOther .reverse)).level = false ∧
      ((waysideAt true true false .failed none).toc.inputs[(0 : Position)].lock .reverse).level = true ∧
      ((waysideAt true true false .failed none).toc.inputs[(0 : Position)].lock (pointsOther .reverse)).level = true ∧
      ((waysideAt false false false .moving (some .reverse)).toc.inputs[(0 : Position)].lock (pointsOther .reverse)).level = false ∧
      ((waysideAt true false false .moving (some .reverse)).toc.inputs[(0 : Position)].lock (pointsOther .reverse)).level = true ∧
      ((waysideAt true false false .moving (some .reverse)).toc.inputs[(0 : Position)].lock .reverse).level = false ∧
      (waysideAt false false false .moving (some .reverse)).toc.records[0]? = some (turnout .moving (some .reverse)) ∧
      { turnout .moving (some .reverse) with throwTimer := some 0 }.throwTimer.isSome = true ∧
      { turnout .moving (some .reverse) with followOn := some ⟨.normal, ⟨6, some 9⟩⟩ }.followOn =
        some ⟨.normal, ⟨6, some 9⟩⟩ ∧
      (wayside.setCtu (wayside.ctu.set 34 { claim := .held 6 (some .normal), reported := none })).ctu[(34 : Seg)].claim =
        .held 6 (some .normal) ∧ wayside.ctu[(34 : Seg)].claim ≠ .held 6 (some .normal) := by decide +kernel

/-- DetectorsAndTimeoutEndThrows: changes that end nothing: a level shown already, the other lock of a locked turnout let go, both alike in FAILED and in
UNKNOWN, and in MOVING the lock let go that the points leave. -/
theorem test_hyps_detectors_idle :
    let same := fun (m : Points) (b : Bool) (s : State) => (after (exec (.lockLevelChange 0 m b) s)).map fun t =>
      (decide (t.toc.records = s.toc.records), decide (t.dpt = s.dpt), decide (t.txq = s.txq), (t.toc.inputs[(0 : Position)].lock m).level)
    (wayside.toc.inputs[(0 : Position)].lock .normal).level = true ∧
      same .normal true wayside = some (true, true, true, true) ∧
      same .reverse false (waysideAt true true false .normal none) = some (true, true, true, false) ∧
      same .reverse true (waysideAt true false false .failed none) = some (true, true, true, true) ∧
      same .normal false (waysideAt true false false .unknown none) = some (true, true, true, false) ∧
      same .normal false (waysideAt true false false .moving (some .reverse)) = some (true, true, true, false) ∧
      same .reverse false (waysideAt true true false .moving (some .reverse)) = some (true, true, true, false) := by decide +kernel

/-- Turnout 34 queued for a throw to REVERSE, held for carriage 6 with that lie, the stagger timer running. -/
def queued : State :=
  let s := waysideAt true false false .normal (some .reverse)
  (s.setToc { s.toc with queue := [34], stagger := some 0 }).setCtu
    (s.ctu.set 34 { claim := .held 6 (some .reverse), reported := some .normal })

/-- StaggerStartsTheOldest: with none queued; one that may start, one occupied and one not held as its start check asks. -/
theorem test_hyps_stagger :
    let busy := queued.setToc { queued.toc with
      inputs := tab fun _ => { normalLock := .settledAt true, reverseLock := .settledAt false, occupancy := .settledAt true } }
    let freed := queued.setCtu (queued.ctu.set 34 { claim := .free, reported := some .normal })
    queued.inReset = false ∧ queued.toc.stagger.isSome = true ∧ queued.toc.queue = [34] ∧ (34 : Seg) ∉ ([] : List Seg) ∧
      queued.toc.record 34 = some (turnout .normal (some .reverse)) ∧ queued.occupied 34 = false ∧
      queued.startHeld (turnout .normal (some .reverse)) .reverse = true ∧ queued.lockHigh 34 .reverse = false ∧
      (queued.setToc { queued.toc with queue := [] }).toc.queue = [] ∧ busy.occupied 34 = true ∧ busy.toc.queue = [34] ∧
      freed.occupied 34 = false ∧ freed.startHeld (turnout .normal (some .reverse)) .reverse = false := by decide +kernel

/-- Turnout 34 possessed by the wayside itself. -/
def possessed (s : State) : State := s.setCtu (s.ctu.set 34 { claim := .held 22 none, reported := some .normal })

/-- The records after a command. -/
def recordsAfter (i : Instr) (s : State) : Option (List Record) := (after (exec i s)).map (·.toc.records)

/-- Turnout 34 in FAILED with its REVERSE lock level high, and the NORMAL one as given, queued for a throw to REVERSE and held for it. -/
def queuedHigh (normal : Bool) : State :=
  let s := waysideAt normal true false .failed (some .reverse)
  (s.setToc { s.toc with queue := [34], stagger := some 0 }).setCtu
    (s.ctu.set 34 { claim := .held 6 (some .reverse), reported := some .failed })

/-- StaggerStartsTheOldest, WonAndThrownTurnouts: a throw that ends at its motor start, locked and in conflict, queued, won and thrown. -/
theorem test_hyps_ends_at_once :
    let answer : Answer := { claimant := 6, tag := some 9 }
    let still := fun (s : State) => s.setToc { s.toc with queue := [], stagger := none }
    let ended := fun (lie : Lie) => [{ turnout lie none with motor := .off }]
    let notices := fun (lie : Lie) (cause : LieCause) => [Notice.throwing 34 .moving .moving, .throwing 34 lie cause]
    ∀ c ∈ [(false, Lie.reverse, LieCause.done), (true, .failed, .detectorConflict)],
      let s := queuedHigh c.1
      s.occupied 34 = false ∧ s.toc.record 34 = some (turnout .failed (some .reverse)) ∧
        s.startHeld (turnout .failed (some .reverse)) .reverse = true ∧ s.lockHigh 34 .reverse = true ∧
        s.lockHigh 34 (pointsOther .reverse) = c.1 ∧
        recordsAfter .staggerExpiry s = some (ended c.2.1) ∧
        (after (exec .staggerExpiry s)).map (·.dpt.notices) = some (notices c.2.1 c.2.2) ∧
        (after (exec .staggerExpiry s)).map (·.toc.stagger) = some (some 500) ∧
        ((still s).wonTurnout 34 (some .reverse) answer).toc.records = ended c.2.1 ∧
        ((still s).wonTurnout 34 (some .reverse) answer).dpt.notices = notices c.2.1 c.2.2 ∧
        recordsAfter (.throw 34 2) (possessed (still s)) = some (ended c.2.1) := by decide +kernel

/-- OccupancyChanges: a fall, a rise on a FREE and on a HELD turnout, in ACTIVE and LISTEN, on a queued one and on a running motor. -/
theorem test_hyps_occupancy :
    wayside.watching = true ∧ wayside.toc.records[(0 : Position).val]? = some (turnout .normal none) ∧
      (waysideAt true false true .normal none).toc.inputs[(0 : Position)].occupancy.level = true ∧
      wayside.toc.inputs[(0 : Position)].occupancy.level = false ∧ wayside.toc.queue.contains 34 = false ∧
      wayside.online = true ∧ wayside.ctu[(34 : Seg)].claim = .free ∧ (listening wayside freshListen).online = false ∧
      (listening wayside freshListen).watching = true ∧ queued.ctu[(34 : Seg)].claim ≠ .free ∧
      queued.toc.queue.contains 34 = true ∧ queued.watching = true ∧
      queued.toc.records[(0 : Position).val]? = some (turnout .normal (some .reverse)) ∧
      queued.toc.inputs[(0 : Position)].occupancy.level = false ∧
      (turnout .moving (some .reverse)).lie = .moving ∧ (turnout .moving (some .reverse)).followOn = none := by decide +kernel

/-- A throw of turnout 34 to REVERSE with a follow-on to NORMAL for carriage 6, the turnout HELD with a required lie. -/
def runningOn (required : Option Points) : State :=
  let s := wayside.setToc { wayside.toc with
    records := [{ turnout .moving (some .reverse) with followOn := some ⟨.normal, ⟨6, some 9⟩⟩ }]
    inputs := tab fun _ => { normalLock := .settledAt false, reverseLock := .settledAt false, occupancy := .settledAt false } }
  s.setCtu (s.ctu.set 34 { claim := .held 6 required, reported := some .moving })

/-- DetectorsAndTimeoutEndThrows and OccupancyChanges: a throw with a follow-on ended by its lock and by a rise of the occupancy; the claim of
the follow-on stands, and does not. -/
theorem test_hyps_follow_on :
    (runningOn none).watching = true ∧ (runningOn none).position 34 = some 0 ∧
      ((runningOn none).toc.inputs[(0 : Position)].lock .reverse).level = false ∧
      ((runningOn none).toc.inputs[(0 : Position)].lock (pointsOther .reverse)).level = false ∧
      (runningOn (some .normal)).ctu[(34 : Seg)].claim = .held 6 (some .normal) ∧
      recordsAfter (.lockLevelChange 0 .reverse true) (runningOn none) = some [turnout .reverse none] ∧
      argsAfter (.lockLevelChange 0 .reverse true) (runningOn none) = some [.lie .done none] ∧
      recordsAfter (.lockLevelChange 0 .reverse true) (runningOn (some .normal)) =
        some [{ turnout .moving (some .normal) with
          answer := some { claimant := 6, tag := some 9 }, throwTimer := some 6000, motor := .driveN }] ∧
      argsAfter (.lockLevelChange 0 .reverse true) (runningOn (some .normal)) =
        some [.lie .moving (some { claimant := 6, tag := some 9 })] ∧
      recordsAfter (.occupancyChange 0 true) (runningOn none) = some [turnout .failed none] ∧
      argsAfter (.occupancyChange 0 true) (runningOn none) = some [.lie .occupiedDuringThrow none] ∧
      argsAfter (.occupancyChange 0 true) (runningOn (some .normal)) =
        some [.lie .refusedOccupied (some { claimant := 6, tag := some 9 })] := by decide +kernel

/-- WonAndThrownTurnouts: every case, and THROW to the same lie and to another. -/
theorem test_hyps_won_thrown :
    ({ claimant := 6, tag := some 9 } : Answer).tag.isSome = true ∧ wayside.toc.lieOf 34 = pointsLie .normal ∧
      wayside.toc.lieOf 34 ≠ pointsLie .reverse ∧ wayside.toc.lieOf 34 ≠ .moving ∧
      (waysideAt true false true .normal none).occupied 34 = true ∧ queued.toc.stagger.isSome = true ∧
      (possessed wayside).ctu[(34 : Seg)].holder = some (possessed wayside).me ∧ (possessed wayside).owned.contains 34 = true ∧
      (possessed wayside).throwsAway 34 .reverse = false ∧ (possessed wayside).role = some .wayside ∧
      (possessed wayside).toc.queue.contains 34 = false ∧
      ((possessed wayside).setToc { wayside.toc with stagger := some 1 }).toc.stagger.isSome = true := by decide +kernel

/-- WonAndThrownTurnouts: a turnout MOVING towards the lie won and towards the other (R168); a THROW of it towards its target; a THROW of a queued
turnout to its target and, locked in it, to the other. -/
theorem test_hyps_won_thrown_moving :
    let running := waysideAt false false false .moving (some .reverse)
    let locked := possessed queued
    running.toc.lieOf 34 = .moving ∧ running.toc.records = [turnout .moving (some .reverse)] ∧
      [Points.reverse, .normal].map (fun p => (running.wonTurnout 34 (some p) ⟨6, some 9⟩).toc.records.map fun r =>
          (r.target, r.answer.isSome, r.followOn.isSome)) =
        [[(some .reverse, true, false)], [(some .reverse, false, true)]] ∧
      (possessed running).owned.contains 34 = true ∧ (possessed running).ctu[(34 : Seg)].holder = some (possessed running).me ∧
      (possessed running).occupied 34 = false ∧ (possessed running).throwsAway 34 .reverse = false ∧
      (possessed running).throwsAway 34 .normal = true ∧ running.role = some .wayside ∧ running.mbu.station = .active ∧
      locked.ctu[(34 : Seg)].holder = some locked.me ∧ locked.toc.queue.contains 34 = true ∧ locked.occupied 34 = false ∧
      locked.toc.lieOf 34 = pointsLie .normal ∧ locked.toc.lieOf 34 ≠ pointsLie .reverse ∧ locked.toc.lieOf 34 ≠ .moving ∧
      locked.throwsAway 34 .reverse = false ∧ locked.throwsAway 34 .normal = false := by decide +kernel

/-- WonAndThrownTurnouts: a turnout joins an empty queue with the stagger not running: won by the station that holds it with that lie, thrown by
the wayside that possesses it, and won while it is FREE. -/
theorem test_hyps_starts_at_once :
    let answer : Answer := { claimant := 6, tag := some 9 }
    let held := wayside.setCtu (wayside.ctu.set 34 { claim := .held 6 (some .reverse), reported := some .normal })
    wayside.toc.stagger = none ∧ wayside.toc.queue = [] ∧ wayside.toc.record 34 = some (turnout .normal none) ∧
      wayside.occupied 34 = false ∧ wayside.lockHigh 34 .reverse = false ∧ held.ctu[(34 : Seg)].claim = .held 6 (some .reverse) ∧
      (possessed wayside).ctu[(34 : Seg)].holder = some (possessed wayside).me ∧ wayside.ctu[(34 : Seg)].claim = .free ∧
      (held.wonTurnout 34 (some .reverse) answer).toc.stagger = some 500 ∧
      (held.wonTurnout 34 (some .reverse) answer).toc.lieOf 34 = .moving ∧
      (after (exec (.throw 34 2) (possessed wayside))).map (·.toc.stagger) = some (some 500) ∧
      recordsAfter (.throw 34 2) (possessed wayside) = some [{ turnout .moving (some .reverse) with
        throwTimer := some 6000, motor := .driveR }] ∧
      (wayside.wonTurnout 34 (some .reverse) answer).toc = wayside.toc := by decide +kernel

/-- RelistenClearsTheStation at a WAYSIDE: one segment held, a queued turnout and a claim outstanding; a MOVING turnout with a follow-on and nothing held. -/
theorem test_hyps_relisten_wayside :
    let held := (possessed queued).setToc { queued.toc with claiming := true }
    held.online = true ∧ held.role = some .wayside ∧ held.mbu.ownLease.isSome = true ∧ 0 < holdCount held.ctu held.me ∧
      holdCount (runningOn none).ctu (runningOn none).me = 0 ∧
      recordsAfter .ownLeaseExpiry held = some [turnout .normal none] ∧
      (after (exec .ownLeaseExpiry held)).map (fun t => (t.toc.claiming, t.toc.queue, t.toc.stagger)) = some (false, [], some 0) ∧
      (after (exec .ownLeaseExpiry held)).map (·.dpt.notices) =
        some [.link .listen .ownLease, .possessionOver .ended 1] ∧
      recordsAfter .ownLeaseExpiry (runningOn none) = some [turnout .moving (some .reverse)] ∧
      (after (exec .ownLeaseExpiry (runningOn none))).map (·.dpt.notices) = some [.link .listen .ownLease] := by decide +kernel

/-- The wayside in ANNOUNCE with turnout 34 running to REVERSE, and HELD by carriage 6 with a required lie or none. -/
def joiningMoving (required : Option Points) : State :=
  let s := at_ (waysideAt false false false .moving (some .reverse)) .announce
  s.setCtu (s.ctu.set 34 { claim := .held 6 required, reported := some .moving })

set_option maxRecDepth 100000 in
/-- WonAndThrownTurnouts at the verdict TAKEN: a claim of an owned turnout that wins and one that loses; a RELEASE that frees a queued turnout; a
LAPSE of this station, with its locked turnout reported. -/
theorem test_hyps_turnouts_taken :
    let claim : Payload := .claim 9 [⟨34, some .reverse⟩, ⟨35, none⟩]
    let r := goodFrame wayside 6 claim
    let outcome := fun (s : State) (c : Station) (p : Payload) => (reportOf s.opr.map s.ctu c p).outcome
    let freed := applyPayload queued.opr.map queued.ctu 6 (.release [34])
    let lapse := goodFrame wayside 6 (.lapse (stationOne 22))
    AtTaken (atVerdict wayside r) (otherLine (some r) (some false)) r twoSlots ∧ r.content = some claim ∧
      outcome wayside 6 claim = some .win ∧ outcome queued 9 claim = some (.loss .held) ∧
      (34 : Seg) ∈ queued.toc.queue ∧ queued.ctu[(34 : Seg)].digestByte ≠ freed[(34 : Seg)].digestByte ∧
      freed[(34 : Seg)].isHeld = false ∧ wayside.owned = [34] ∧ wayside.owned.Nodup ∧ lapse.content = some (.lapse (stationOne 22)) ∧
      stationHas (stationOne 22) wayside.me = true ∧ wayside.toc.lieOf 34 = .normal ∧ wayside.txq.find (.lie 34) = none := by
  unfold AtTaken
  decide +kernel

set_option maxRecDepth 100000 in
/-- WonAndThrownTurnouts at the entry to ACTIVE: the own announce taken with turnout 34 HELD, at rest and queued, and MOVING with a required lie
of its target, of the other and NONE. -/
theorem test_hyps_turnouts_announced :
    let announce := flyingEntry .beacon .beacon false
    ∀ s ∈ [at_ queued .announce, joiningMoving (some .reverse), joiningMoving (some .normal), joiningMoving none],
      AtTaken (ownVerdict s announce) (ownLine s announce (some false)) (s.ownFrame announce).received twoSlots ∧
        s.mbu.station = .announce ∧ (∀ e ∈ (ownVerdict s announce).txq.flying, e.key = .beacon) ∧
        (s.ctu[(34 : Seg)].claim = .held 6 (some .reverse) ∨ s.toc.lieOf 34 = .moving) ∧
        (after (exec (takenInstr .beacon twoSlots) (ownVerdict s announce))).map (·.mbu.station) = some .active := by
  unfold AtTaken
  decide +kernel

/-- ClearPossessAndUnpossess: lists of one, six and twelve segments, a claim outstanding in the queue and none. -/
theorem test_hyps_clear_possess :
    let five : List Seg := [30, 31, 32, 33, 34]
    wayside.inReset = false ∧ wayside.mbu.station = .active ∧ wayside.opr.options.isSome = true ∧ five.length ≤ 6 ∧
      (five.all fun seg => (wayside.seg seg).defined) = true ∧ distinct five = true ∧ wayside.role = some .wayside ∧
      wayside.toc.claiming = false ∧ wayside.txq.find .claim = none ∧
      ((withEntry wayside { flyingEntry .claim (.claim false [⟨34, none⟩] 0) false with flight := none }).setToc
        { wayside.toc with claiming := true }).toc.claiming = true ∧
      ((withEntry wayside { flyingEntry .claim (.claim false [⟨34, none⟩] 0) false with flight := none }).txq.find .claim).map
        (·.flight) = some none := by decide +kernel

/-- ClearPossessAndUnpossess: UNPOSSESS with the possession claim in flight. -/
theorem test_hyps_unpossess_flying :
    let e := flyingEntry .claim (.claim false [⟨34, none⟩] 0) false
    let s := (withEntry wayside e).setToc { wayside.toc with claiming := true }
    s.toc.claiming = true ∧ s.txq.find .claim = some e ∧ e.flight = some { pending := none, withdrawn := false } ∧
      s.role = some .wayside ∧ s.mbu.station = .active ∧
      (after (exec .unpossess s)).map (fun t => (t.toc.claiming, (t.txq.find .claim).bind (·.flight))) =
        some (true, some { pending := none, withdrawn := true }) := by decide +kernel

set_option maxRecDepth 100000 in
/-- ClearPossessAndUnpossess at the verdict TAKEN: the possession claim won, won withdrawn, and lost; a LAPSE of this station and a RELEASE that end
possessions. -/
theorem test_hyps_possession_taken :
    let entry := fun withdrawn => flyingEntry .claim (.claim false [⟨34, none⟩] 0) withdrawn
    let blocked := wayside.setCtu (wayside.ctu.set 34 { claim := .blocked .guard, reported := none })
    let lapse := goodFrame wayside 6 (.lapse (stationOne 22))
    let release := flyingEntry .release (.segs (segOne 34)) false
    AtTaken (ownVerdict wayside (entry true)) (ownLine wayside (entry true) (some false)) (wayside.ownFrame (entry true)).received
      twoSlots ∧ ArgsLaw (ownVerdict wayside (entry true)) ∧
      (wayside.ownFrame (entry true)).payload = .claim 0 [⟨34, none⟩] ∧ (ownVerdict wayside (entry true)).txq.flying = some (entry true) ∧
      (reportOf wayside.opr.map wayside.ctu wayside.me (.claim 0 [⟨34, none⟩])).outcome = some .win ∧
      (reportOf blocked.opr.map blocked.ctu blocked.me (.claim 0 [⟨34, none⟩])).outcome = some (.loss .blocked) ∧
      (entry false).flight = some { pending := none, withdrawn := false } ∧
      AtTaken (atVerdict (possessed wayside) lapse) (otherLine (some lapse) (some false)) lapse twoSlots ∧
      (allSegs.filter fun i => (possessed wayside).ctu[i].heldBy 22 &&
        !(applyPayload wayside.opr.map (possessed wayside).ctu 6 (.lapse (stationOne 22)))[i].heldBy 22).length = 1 ∧
      (((possessed wayside).ownFrame release).payload = .release [34]) ∧
      (allSegs.filter fun i => (possessed wayside).ctu[i].heldBy 22 &&
        !(applyPayload wayside.opr.map (possessed wayside).ctu 22 (.release [34]))[i].heldBy 22).length = 1 := by
  refine ⟨by unfold AtTaken; decide +kernel, argsLaw_of (by decide +kernel), by decide +kernel, by decide +kernel, by decide +kernel,
    by decide +kernel, by decide +kernel, by unfold AtTaken; decide +kernel, ?_⟩
  decide +kernel

set_option maxRecDepth 100000 in
/-- ClearPossessAndUnpossess: a withdrawn possession claim that loses, and posts nothing of it. -/
theorem test_hyps_possession_withdrawn :
    let entry := flyingEntry .claim (.claim false [⟨34, none⟩] 0) true
    let blocked := wayside.setCtu (wayside.ctu.set 34 { claim := .blocked .guard, reported := none })
    AtTaken (ownVerdict blocked entry) (ownLine blocked entry (some false)) (blocked.ownFrame entry).received twoSlots ∧
      (ownVerdict blocked entry).txq.flying = some entry ∧ (blocked.ownFrame entry).payload = .claim 0 [⟨34, none⟩] ∧
      (reportOf blocked.opr.map blocked.ctu blocked.me (.claim 0 [⟨34, none⟩])).outcome = some (.loss .blocked) ∧
      (after (exec (takenInstr .claim twoSlots) (ownVerdict blocked entry))).map (·.dpt.notices) = some [.peer 6 .present] := by
  unfold AtTaken
  decide +kernel

/-! ### The drive port and the laws -/

/-- A station in CONFIG_FAULT. -/
def inConfigFault : State := at_ State.reset .configFault

/-- PortTestsComeFirst: START with a command and with a bad message, a bad message after it, CONFIG_FAULT, a command of the other role each way. -/
theorem test_hyps_port_tests :
    State.reset.inReset = false ∧ State.reset.mbu.station = .start ∧ messageOf .keep = some [0x16, 0x00] ∧
      commandOf [0x05, 0x00] = none ∧ carriage.mbu.station ≠ .start ∧ inConfigFault.mbu.station = .configFault ∧
      Instr.keep.wellFormed = true ∧ Instr.keep ≠ .status ∧ Instr.keep ≠ .notice ∧ wayside.role = some .wayside ∧
      carriage.role = some .carriage ∧ wayside.mbu.station ≠ .configFault ∧ Instr.unpossess.wellFormed = true ∧
      messageOf .lineIdle = none := by decide +kernel

/-- PortTestsComeFirst: parameters at the ends of their ranges, one past them. -/
theorem test_hyps_port_ranges :
    (Instr.clearCommand [0x40]).wellFormed = true ∧ 64 ≤ (0x40#8).toNat ∧ ¬64 ≤ (0x3F#8).toNat ∧
      (Instr.locate 0x40 0#24 none).wellFormed = true ∧ (Instr.locate 0 65536#24 none).wellFormed = true ∧
      65535 < (65536#24).toNat ∧ (65535#24).toNat ≤ 65535 ∧ (Instr.locate 0 0#24 (some 0x40)).wellFormed = true ∧
      (Instr.loadRoute [0x40]).wellFormed = true ∧ (Instr.possess [0x40]).wellFormed = true ∧
      (Instr.throw 0x40 1).wellFormed = true ∧ (Instr.throw 34 0).wellFormed = true ∧ (Instr.throw 34 3).wellFormed = true ∧
      [exec (.clearCommand [0x40]) carriage, exec (.locate 0 65536#24 none) carriage, exec (.loadRoute [0x40]) carriage,
        exec (.possess [0x40]) wayside, exec (.throw 34 3) wayside].map
          (fun o => (after o).map (fun t => t.dpt.reply.status)) = List.replicate 5 (some Status.invalid) := by decide +kernel

/-- The reason with which a command is refused. -/
def refusal (i : Instr) (s : State) : Option (Status × List Byte) :=
  (after (exec i s)).map fun t => (t.dpt.reply.status, t.dpt.reply.data)

/-- PortTestsComeFirst: each command's own tests, at a carriage. -/
theorem test_hyps_carriage_refusals :
    let listens := fun s => listening s freshListen
    let halts := fun s => at_ s .duplicateHalt
    [refusal (.clearCommand [30]) (listens carriage), refusal (.clearCommand [63]) carriage, refusal (.clearCommand [30, 30]) carriage,
      refusal (.locate 30 0#24 none) (listens parked), refusal (.locate 30 0#24 none) moving, refusal (.locate 63 0#24 none) parked,
      refusal (.locate 30 401#24 none) parked, refusal (.locate 30 0#24 (some 30)) parked, refusal (.locate 30 0#24 (some 32)) parked,
      refusal (.locate 30 350#24 (some 31)) parked, refusal (.loadRoute [30, 31]) (halts parked),
      refusal (.loadRoute [30, 31]) moving, refusal (.loadRoute [30, 31]) ((placed .parked (some 30) 0 0)),
      refusal .cancel (halts moving), refusal .docked (halts moving), refusal .keep (halts moving), refusal .cancel parked,
      refusal .docked parked, refusal .docked (placed .moving (some 30) 0 0), refusal .docked moving, refusal (.take 0) (listens moving),
      refusal .resume (listens moving), refusal (.take 0) parked, refusal .resume carriage] =
      [1, 10, 11, 1, 2, 3, 3, 3, 3, 3, 1, 2, 4, 1, 1, 1, 2, 2, 8, 8, 1, 1, 2, 2].map fun c => some (Status.refused, [c]) := by
  decide +kernel

/-- PortTestsComeFirst: each command's own tests, at a wayside. -/
theorem test_hyps_wayside_refusals :
    let w := possessed wayside
    let busy := w.setToc { w.toc with claiming := true }
    let occupied := possessed (waysideAt true false true .normal none)
    let moves := possessed (waysideAt false false false .moving (some .normal))
    [refusal .unpossess (listening w freshListen), refusal (.throw 34 2) (listening w freshListen),
      refusal (.possess [34]) (listening w freshListen), refusal (.possess [34]) busy, refusal (.possess [63]) w,
      refusal (.possess [34, 34]) w, refusal (.throw 35 2) w, refusal (.throw 34 2) wayside, refusal (.throw 34 2) occupied,
      refusal (.throw 34 2) moves] =
      [1, 1, 1, 9, 10, 11, 12, 13, 14, 15].map fun c => some (Status.refused, [c]) := by decide +kernel

/-- A full notice queue. -/
def fullNotices : State := carriage.setDpt { carriage.dpt with notices := List.replicate 16 (.joinRetry 1) }

/-- QueriesAndNotices: bytes at the ends of their ranges, a queue of 0, 15 and 16 notices. -/
theorem test_hyps_queries :
    carriage.inReset = false ∧ carriage.mbu.station ≠ .start ∧ 64 ≤ (64#8).toNat ∧ (0#8).toNat = 0 ∧ 30 < (31#8).toNat ∧
      1 ≤ (1 : Station).val ∧ (30 : Station).val ≤ 30 ∧ carriage.dpt.notices = [] ∧
      (fullNotices.setDpt { fullNotices.dpt with notices := fullNotices.dpt.notices.drop 1 }).dpt.notices.length < 16 ∧
      16 ≤ fullNotices.dpt.notices.length ∧ fullNotices.ntc = true ∧ carriage.ntc = false := by decide +kernel

/-- QueriesAndNotices: STATUS without a role, at a carriage and at a wayside; an entry of each state; a record of one notice. -/
theorem test_hyps_status :
    State.reset.role = none ∧ (at_ State.reset .configFault).mbu.station ≠ .start ∧ carriage.role = some .carriage ∧
      wayside.role = some .wayside ∧ moving.statusData.drop 11 = [4, 0, 3, 0, 30, 0xFF, 0, 0, 100, 0, 0xFF, 1] ∧
      wayside.statusData.drop 11 = [1, 0xFF, 0xFF, 0xFF, 0, 0xFF, 0xFF, 0xFF, 0xFF, 0, 0, 0xFF] ∧
      entryData queued.ctu[(34 : Seg)] = [1, 6, 2, 1, 0xFF] ∧
      entryData { claim := .blocked .guard, reported := none } = [2, 0, 0xFF, 0xFF, 1] ∧
      peerData { presence := .present, role := some .wayside, lease := some 1200, foreign := true } = [1, 1, 0x04, 0xB0, 1] ∧
      (Notice.offer 12 3 2700).data = [5, 3, 0, 0, 12, 0, 0, 3, 0, 10, 140] := by decide +kernel

/-- CommandMessagesAreReadBack: the longest command of each length. -/
theorem test_hyps_messages :
    (Instr.loadRoute (List.replicate 16 0x1E)).wellFormed = true ∧
      (messageOf (.loadRoute (List.replicate 16 0x1E))).map List.length = some 18 ∧
      (Instr.locate 0x22 50 (some 0x21)).wellFormed = true ∧
      messageOf (.locate 0x22 50 (some 0x21)) = some [0x10, 0x05, 0x22, 0x00, 0x00, 0x32, 0x21] := by decide

/-- PayloadsAreReadBack: payloads at the greatest counts, by their bytes. -/
theorem test_hyps_payloads :
    (payloadBytes (.beacon true .wayside (List.replicate 12 ⟨63, some .reverse⟩) 1 (List.replicate 4 ⟨63, .failed⟩))).length = 31 ∧
      payloadBytes (.claim 9 [⟨34, some .reverse⟩, ⟨35, none⟩]) = [0x92, 0x8A, 0x8C] ∧
      payloadBytes (.lie 34 .failed .lockLost none) = [0x22, 0x46] ∧
      payloadBytes (.lie 34 .reverse .done (some (6, 9))) = [0x22, 0x20, 0x06, 0x09] ∧
      payloadBytes (.lapse (stationOne 9)) = [0x00, 0x40, 0x00, 0x00] ∧ payloadBytes (.release [10]) = [0x01, 0x0A] := by
  decide +kernel

/-- MOVING with steps 0 to 3 committed, and the offer that the offer rule asks for. -/
def offering : State := moving.refreshOffer

/-- The invariants hold of the example's states, and the states step: the speed cap and the committed track MOVING with STOP released. -/
theorem test_hyps_committed_law :
    SpeedCapLaw offering ∧ CommittedLaw offering ∧ RouteLaw offering ∧ EngineLaw offering ∧
      (after (step (offering.setPending [.spdPeriodStart]))).isSome = true := by
  have hn : offering.rte.route.map (·.num) = [0, 1, 2, 3, 4, 5, 6] := by decide +kernel
  exact ⟨by unfold SpeedCapLaw; decide +kernel, fun _ => by decide +kernel, by unfold RouteLaw; rw [hn]; decide,
    engineLaw_of (by decide +kernel), by decide +kernel⟩

/-- Two steps of the example are linked. -/
def linked (map : Option TrackMap) (a b : Step) : Bool :=
  a.exitEnd.any fun e => b.entryEnd.any fun f => decide ((mapRec map a.seg).link e = some { seg := b.seg, endNo := f })

theorem stepsLinked_of {map : Option TrackMap} {route : List Step} (h : route.IsChain fun a b => linked map a b = true) :
    route.IsChain (stepsLinked map) := by
  refine h.imp fun a b h => ?_
  unfold linked at h
  rw [Option.any_eq_true] at h
  obtain ⟨e, he, h⟩ := h
  rw [Option.any_eq_true] at h
  obtain ⟨f, hf, h⟩ := h
  exact ⟨e, f, he, hf, of_decide_eq_true h⟩

theorem test_hyps_route_laws : RouteQueueLaw movingPast ∧ FlagLaw movingPast ∧ CommittedLaw movingPast ∧
    movingPast.mou.stop = false ∧ movingPast.role = some .carriage ∧
    (movingPast.rte.route.map (·.committed)) = [true, true, true, true, true, false, false] := by
  have hl : movingPast.rte.route.IsChain (fun a b => linked movingPast.opr.map a b = true) := by decide +kernel
  have hf : ∀ st ∈ movingPast.rte.route, (st.held = true → movingPast.online = true ∧ movingPast.ctu[st.seg].holder = some movingPast.me) ∧
      (st.confirmed = true → st.held = true ∧ st.required = some .reverse ∧
        movingPast.ctu[st.seg].reported = some (pointsLie .reverse)) := by decide +kernel
  refine ⟨⟨by decide +kernel, by decide +kernel, stepsLinked_of hl, by decide +kernel⟩,
    ⟨?_, ?_, fun _ => ⟨fun st hs => ⟨(hf st hs).1, fun hc => ?_⟩, ?_⟩⟩,
    fun _ => by decide +kernel, by decide +kernel, by decide +kernel, by decide +kernel⟩
  · decide +kernel
  · decide +kernel
  · exact ⟨((hf st hs).2 hc).1, .reverse, ((hf st hs).2 hc).2⟩
  · decide +kernel

/-- MOVING with steps 0 to 3 committed and the turnout's LIE, which confirms step 4, at its verdict in front. -/
def aboutToOffer : State :=
  let s := routed .moving 6 false 4
  (atVerdict s (goodFrame s 22 (.lie 34 .reverse .done (some (6, 9))))).setPending [.lieTaken twoSlots]

set_option maxRecDepth 100000 in
/-- AuthorityLimit, a step: the LIE makes the offer of the last step of the route. -/
theorem test_hyps_offer_made :
    CommittedLaw aboutToOffer ∧ RouteLaw aboutToOffer ∧ EngineLaw aboutToOffer ∧ RouteQueueLaw aboutToOffer ∧
      aboutToOffer.pending.head? = some (.lieTaken twoSlots) ∧ aboutToOffer.rte.offer = none ∧ aboutToOffer.rte.serial = 12 ∧
      ((after (step aboutToOffer)).bind (·.rte.offer)).map (fun o => (o.serial, o.step)) = some (13, 6) := by
  have hn : aboutToOffer.rte.route.map (·.num) = [0, 1, 2, 3, 4, 5, 6] := by decide +kernel
  have hl : aboutToOffer.rte.route.IsChain (fun a b => linked aboutToOffer.opr.map a b = true) := by decide +kernel
  exact ⟨fun _ => by decide +kernel, by unfold RouteLaw; rw [hn]; decide, engineLaw_of (by decide +kernel),
    ⟨by decide +kernel, by decide +kernel, stepsLinked_of hl, by decide +kernel⟩, by decide +kernel⟩

/-- The queue laws and the hold limit, at a station with a frame of its own on the line. -/
theorem test_hyps_queue_laws :
    NoticeLaw fullNotices ∧ QueueLaw (withEntry carriage releaseEntry) ∧ ArgsLaw (withEntry carriage releaseEntry) ∧
      (∀ k, holdCount moving.ctu k ≤ 12) ∧ moving.liu.line = none ∧ tallying.online = true ∧
      (after (step (tallying.setPending [.releaseTaken twoSlots]))).isSome = true := by
  refine ⟨by unfold NoticeLaw; decide +kernel, by unfold QueueLaw; decide +kernel, argsLaw_of (by decide +kernel), ?_⟩
  decide +kernel

/-- The motor law and the records, with an owned turnout. -/
theorem test_hyps_motor_law :
    MotorLaw wayside ∧ RecordLaw wayside ∧ (after (step (wayside.setPending [.occupancyChange 0 true]))).isSome = true := by
  refine ⟨?_, by unfold RecordLaw; decide +kernel, by decide +kernel⟩
  intro r h
  have : wayside.toc.records = [turnout .normal none] := by decide +kernel
  rw [this] at h
  cases List.mem_singleton.mp h
  decide +kernel

/-- StepsKeepTheMotorLaw: a start at the stagger's expiry, and a stagger timer that runs on. -/
theorem test_hyps_starts :
    let t := (after (step (queued.setPending [.staggerExpiry]))).getD State.reset
    (∃ r ∈ t.toc.records, Started (queued.setPending [.staggerExpiry]) t r) ∧ t.toc.stagger = some 500 ∧
      queued.mbu.station ≠ .start ∧ queued.toc.stagger = some 0 := by
  have hr : ((after (step (queued.setPending [.staggerExpiry]))).getD State.reset).toc.records =
      [{ turnout .moving (some .reverse) with motor := .driveR, throwTimer := some 6000 }] := by decide +kernel
  refine ⟨⟨_, by rw [hr]; exact List.mem_singleton_self _, by rw [hr]; exact List.mem_singleton_self _, by decide, ?_⟩,
    by decide +kernel, by decide +kernel, by decide +kernel⟩
  decide +kernel

end Sys2Proof.Tests
end

section
/-! The claim table (chapter 2): what each kind of taken frame makes of each entry, the claim rule (R24, R25), the causes of a loss (R26), and the
hold counts (R19) that applying and learning a frame leave. -/
namespace Sys2Proof.Machine

open Sys2Proof

/-! ## One entry (R14) -/

/-- R14: the entry is FREE. -/
theorem Entry.isFree_iff (e : Entry) : e.isFree = true ↔ e.claim = .free := by simp [Entry.isFree]

/-- R14: the entry is HELD by a station. -/
theorem Entry.heldBy_iff (e : Entry) (k : Station) : e.heldBy k = true ↔ e.holder = some k := by simp [Entry.heldBy]

/-- R14: the holder of an entry goes by its claim alone. -/
theorem Entry.holder_congr {e f : Entry} (h : e.claim = f.claim) : e.holder = f.holder := by
  unfold Entry.holder; rw [h]

/-- R14: the holder of an entry is that of a HELD claim. -/
theorem Entry.holder_eq_some_iff (e : Entry) (k : Station) : e.holder = some k ↔ ∃ r, e.claim = .held k r := by
  cases hc : e.claim <;> simp [Entry.holder, hc]

/-- R24 condition 1, R25: what can be won. -/
theorem Entry.available_iff (e : Entry) (reclaim : Bool) :
    e.available reclaim = true ↔ e.claim = .free ∨ (reclaim = true ∧ e.isBlocked = true) := by
  simp [Entry.available, Entry.isFree_iff]

/-! ## Claim-type frames (R24 to R26) -/

/-- R24, R25: the conditions of a win. -/
theorem claimWins_iff (t : Table) (c : Station) (reclaim : Bool) (bundle : List BundleEntry) :
    claimWins t c reclaim bundle = true ↔
      (∀ e ∈ bundle, t[e.seg].claim = .free ∨ (reclaim = true ∧ t[e.seg].isBlocked = true)) ∧
        holdCount t c + bundle.length ≤ 12 := by
  rw [claimWins, Bool.and_eq_true, List.all_eq_true, decide_eq_true_iff]
  simp only [Entry.available_iff, Config.holdLimit]

/-- R24, R25: CLAIM and RECLAIM are applied by the same rule. -/
theorem applyPayload_claimType (map : Option TrackMap) (t : Table) (c : Station) (tag : Tag) (reclaim : Bool)
    (bundle : List BundleEntry) :
    applyPayload map t c (if reclaim then .reclaim tag bundle else .claim tag bundle) = claimTable t c reclaim bundle := by
  cases reclaim <;> rfl

/-- R23: the change report of a claim-type frame carries its outcome. -/
theorem reportOf_outcome_claimType (map : Option TrackMap) (t : Table) (c : Station) (tag : Tag) (reclaim : Bool)
    (bundle : List BundleEntry) :
    (reportOf map t c (if reclaim then .reclaim tag bundle else .claim tag bundle)).outcome =
      some (claimOutcome t c reclaim bundle) := by
  cases reclaim <;> rfl

/-- R24: a win gives every bundled entry to the sender with its required lie. -/
theorem winTable_get_of_mem (t : Table) (c : Station) (bundle : List BundleEntry) (hd : (bundle.map (·.seg)).Nodup)
    (e : BundleEntry) (he : e ∈ bundle) :
    (winTable t c bundle)[e.seg] = { claim := .held c e.required, reported := t[e.seg].reported } := by
  rw [winTable, tab_get, find_of_distinct bundle (·.seg) hd e he]

/-- R24: a win leaves every other entry. -/
theorem winTable_get_of_notMem (t : Table) (c : Station) (bundle : List BundleEntry) (i : Seg)
    (hi : i ∉ bundle.map (·.seg)) : (winTable t c bundle)[i] = t[i] := by
  rw [winTable, tab_get, find_none_of bundle (·.seg) i hi]

/-- R24, R25: a frame that loses changes no entry. -/
theorem claimTable_of_loss (t : Table) (c : Station) (reclaim : Bool) (bundle : List BundleEntry)
    (h : ¬claimWins t c reclaim bundle = true) : claimTable t c reclaim bundle = t := by
  rw [claimTable, if_neg h]

/-- R24, R25: a frame that wins. -/
theorem claimTable_of_win (t : Table) (c : Station) (reclaim : Bool) (bundle : List BundleEntry)
    (h : claimWins t c reclaim bundle = true) : claimTable t c reclaim bundle = winTable t c bundle := by
  rw [claimTable, if_pos h]

/-- R24, R25: an entry outside the bundle stays, whatever the outcome. -/
theorem claimTable_get_of_notMem (t : Table) (c : Station) (reclaim : Bool) (bundle : List BundleEntry) (i : Seg)
    (hi : i ∉ bundle.map (·.seg)) : (claimTable t c reclaim bundle)[i] = t[i] := by
  unfold claimTable
  split
  · exact winTable_get_of_notMem t c bundle i hi
  · rfl

/-- R26: the first case of the table that a losing bundle meets. -/
theorem lossCause_eq (t : Table) (reclaim : Bool) (bundle : List BundleEntry) :
    lossCause t reclaim bundle =
      if ∃ e ∈ bundle, t[e.seg].isHeld = true then .held
      else if reclaim = false ∧ ∃ e ∈ bundle, t[e.seg].isBlocked = true then .blocked
      else .holdLimit := by
  simp [lossCause]

/-! ## The other kinds (R28 to R35) -/

/-- R28: an entry after a taken RELEASE. -/
theorem releaseTable_get (t : Table) (c : Station) (segs : List Seg) (i : Seg) :
    (releaseTable t c segs)[i] =
      if i ∈ segs ∧ t[i].holder = some c then { claim := .free, reported := t[i].reported } else t[i] := by
  simp [releaseTable, Entry.heldBy_iff]

/-- R32: an entry after a taken CLEAR. -/
theorem clearedTable_get (t : Table) (segs : List Seg) (i : Seg) :
    (clearedTable t segs)[i] =
      if i ∈ segs ∧ t[i].isBlocked = true then { claim := .free, reported := t[i].reported } else t[i] := by
  simp [clearedTable]

/-- R33: an entry after a taken GUARD. -/
theorem guardTable_get (t : Table) (segs : List Seg) (i : Seg) :
    (guardTable t segs)[i] =
      if i ∈ segs ∧ t[i].claim = .free then { claim := .blocked .guard, reported := t[i].reported } else t[i] := by
  simp [guardTable, Entry.isFree_iff]

/-- R29, R30: an entry after a taken LAPSE. -/
theorem lapseTable_get (map : Option TrackMap) (t : Table) (set : StationSet) (i : Seg) :
    (lapseTable map t set)[i] =
      { claim := if ∃ k, t[i].holder = some k ∧ stationHas set k = true then .blocked .lapse else t[i].claim
        reported := if ∃ k, (mapRec map i).owner = some k ∧ stationHas set k = true then some .unknown
          else t[i].reported } := by
  simp [lapseTable, Entry.heldIn, ownedIn, Option.any_eq_true]

/-- R34, R35: who may report a lie. -/
theorem mayReport_iff (map : Option TrackMap) (c : Station) (seg : Seg) :
    mayReport map c seg = true ↔ (mapRec map seg).owner = some c := by simp [mayReport]

/-- R34: an entry after a taken LIE. -/
theorem lieTable_get (map : Option TrackMap) (t : Table) (c : Station) (seg i : Seg) (lie : Lie) :
    (lieTable map t c seg lie)[i] =
      if i = seg ∧ (mapRec map i).owner = some c then { claim := t[i].claim, reported := some lie } else t[i] := by
  simp [lieTable, mayReport_iff]

/-- R35: an entry after a taken BEACON. -/
theorem beaconTable_get (map : Option TrackMap) (t : Table) (c : Station) (lies : List LieEntry) (i : Seg) :
    (beaconTable map t c lies)[i] = beaconEntry map c lies i t[i] := by
  rw [beaconTable, tab_get]

/-- R35: a lie list leaves the claim. -/
@[simp] theorem beaconEntry_claim (map : Option TrackMap) (c : Station) (lies : List LieEntry) (i : Seg) (e : Entry) :
    (beaconEntry map c lies i e).claim = e.claim := by
  unfold beaconEntry
  split
  · split <;> rfl
  · rfl

/-- R35: a lie list changes no entry that its sender does not own or that it does not list. -/
theorem beaconEntry_of_other (map : Option TrackMap) (c : Station) (lies : List LieEntry) (i : Seg) (e : Entry)
    (h : (mapRec map i).owner ≠ some c ∨ i ∉ lies.map (·.seg)) : beaconEntry map c lies i e = e := by
  unfold beaconEntry
  rcases h with howner | hlist
  · split
    · rw [if_neg (mt (mayReport_iff map c i).mp howner)]
    · rfl
  · rw [find_none_of lies (·.seg) i hlist]

/-- R35: the owner's lie list gives the reported lie. -/
theorem beaconEntry_reported (map : Option TrackMap) (c : Station) (lies : List LieEntry) (x : LieEntry) (e : Entry)
    (hx : x ∈ lies) (hd : (lies.map (·.seg)).Nodup) (howner : (mapRec map x.seg).owner = some c) :
    (beaconEntry map c lies x.seg e).reported = some x.lie := by
  unfold beaconEntry
  rw [find_of_distinct lies (·.seg) hd x hx]
  simp only [if_pos ((mayReport_iff map c x.seg).mpr howner)]

/-! ## The statements of chapter 2 -/

/-- Settles O22: the conditions of the claim rule are those of `claimWins_iff`, and the two outcomes are `winTable` and no change. -/
theorem claimWinsOrChangesNothing : Obligations.ClaimWinsOrChangesNothing := by
  intro map t c tag bundle i reclaim p hd hp
  rw [hp, applyPayload_claimType]
  refine ⟨fun hav hcount e he => ?_, claimTable_get_of_notMem t c reclaim bundle i, fun hloss => ?_⟩
  · rw [claimTable_of_win t c reclaim bundle ((claimWins_iff t c reclaim bundle).mpr ⟨hav, hcount⟩)]
    exact winTable_get_of_mem t c bundle ((distinct_nodup _).mp hd) e he
  · exact claimTable_of_loss t c reclaim bundle (mt (claimWins_iff t c reclaim bundle).mp hloss)

/-- Settles O23: the outcome in the report is that of the claim rule, and the cause of a loss is `lossCause_eq`. -/
theorem lossCauses : Obligations.LossCauses := by
  intro map t c tag reclaim bundle p hp
  rw [hp, reportOf_outcome_claimType, claimOutcome]
  constructor
  · intro hwin
    rw [if_pos ((claimWins_iff t c reclaim bundle).mpr hwin)]
  · intro hloss
    rw [if_neg (mt (claimWins_iff t c reclaim bundle).mp hloss), lossCause_eq]

/-- Settles O24, entry by entry. -/
theorem releaseClearGuardAndLapse : Obligations.ReleaseClearGuardAndLapse := fun map t c segs set i =>
  ⟨releaseTable_get t c segs i, clearedTable_get t segs i, guardTable_get t segs i, lapseTable_get map t set i⟩

/-- Settles O25, entry by entry. -/
theorem reportedLies : Obligations.ReportedLies := by
  intro map t c seg i lie cause answer announce role held blocked lies
  refine ⟨lieTable_get map t c seg i lie, ?_, fun h => ?_, fun e he hd howner => ?_⟩
  · exact congrArg Entry.claim (beaconTable_get map t c lies i) |>.trans (beaconEntry_claim map c lies i t[i])
  · exact (beaconTable_get map t c lies i).trans (beaconEntry_of_other map c lies i t[i] h)
  · exact congrArg Entry.reported (beaconTable_get map t c lies e.seg) |>.trans
      (beaconEntry_reported map c lies e t[e.seg] he hd howner)

/-! ## The hold counts (R19) -/

/-- R19: what one table gives a station, another gives it too or a list names. -/
theorem holdCount_le_add (t u : Table) (k : Station) (segs : List Seg)
    (h : ∀ i : Seg, u[i].holder = some k → t[i].holder = some k ∨ i ∈ segs) :
    holdCount u k ≤ holdCount t k + segs.length := by
  have hsub : (allSegs.filter fun i => u[i].heldBy k) ⊆ (allSegs.filter fun i => t[i].heldBy k) ++ segs := by
    intro i hi
    obtain ⟨hmem, hheld⟩ := List.mem_filter.mp hi
    rcases h i ((Entry.heldBy_iff _ k).mp hheld) with hold | hnew
    · exact List.mem_append_left _ (List.mem_filter.mpr ⟨hmem, (Entry.heldBy_iff _ k).mpr hold⟩)
    · exact List.mem_append_right _ hnew
  have hnodup : (allSegs.filter fun i => u[i].heldBy k).Nodup := (List.nodup_finRange 64).filter _
  simpa [holdCount] using (hnodup.subperm hsub).length_le

/-- R19: a station that is given no entry has no higher hold count. -/
theorem holdCount_mono (t u : Table) (k : Station) (h : ∀ i : Seg, u[i].holder = some k → t[i].holder = some k) :
    holdCount u k ≤ holdCount t k :=
  holdCount_le_add t u k [] fun i hi => Or.inl (h i hi)

/-- R19: a station that holds listed entries alone holds no more than the list names. -/
theorem holdCount_le_length (u : Table) (k : Station) (segs : List Seg)
    (h : ∀ i : Seg, u[i].holder = some k → i ∈ segs) : holdCount u k ≤ segs.length := by
  have hfree : holdCount (tab fun _ => { claim := .free, reported := none } : Table) k = 0 := by
    simp [holdCount, Entry.heldBy, Entry.holder]
  have hle := holdCount_le_add (tab fun _ => { claim := .free, reported := none }) u k segs fun i hi => Or.inr (h i hi)
  omega

/-- R16, R19: the cleared table is held by nobody. -/
theorem holdCount_clearTable (map : Option TrackMap) (k : Station) : holdCount (clearTable map) k = 0 := by
  simp [holdCount, clearTable, Entry.heldBy, Entry.holder]

/-- R19, R20: the holdings list has as many entries as the station holds. -/
theorem length_holdings (t : Table) (k : Station) : (holdings t k).length = holdCount t k := by simp [holdings, holdCount]

/-- R24: after a win an entry is as it was, or it is a bundled one that the sender holds. -/
theorem winTable_get_cases (t : Table) (c : Station) (bundle : List BundleEntry) (i : Seg) :
    (winTable t c bundle)[i] = t[i] ∨ (i ∈ bundle.map (·.seg) ∧ (winTable t c bundle)[i].holder = some c) := by
  rw [winTable, tab_get]
  cases hfind : bundle.find? fun e => e.seg == i with
  | none => exact Or.inl rfl
  | some e =>
    have hseg : e.seg = i := by simpa using List.find?_some hfind
    exact Or.inr ⟨List.mem_map.mpr ⟨e, List.mem_of_find?_eq_some hfind, hseg⟩, rfl⟩

/-- R19, R24, R25: the claim rule keeps the hold limit. -/
theorem holdCount_claimTable_le (t : Table) (c k : Station) (reclaim : Bool) (bundle : List BundleEntry)
    (h : holdCount t k ≤ 12) : holdCount (claimTable t c reclaim bundle) k ≤ 12 := by
  by_cases hwin : claimWins t c reclaim bundle = true
  · rw [claimTable_of_win t c reclaim bundle hwin]
    have hcases := winTable_get_cases t c bundle
    by_cases hk : k = c
    · subst hk
      have hroom := ((claimWins_iff t k reclaim bundle).mp hwin).2
      have hle := holdCount_le_add t (winTable t k bundle) k (bundle.map (·.seg)) fun i hi =>
        (hcases i).imp (fun heq => by rwa [heq] at hi) And.left
      rw [List.length_map] at hle
      omega
    · refine (holdCount_mono t _ k fun i hi => ?_).trans h
      rcases hcases i with heq | ⟨-, hc⟩
      · rwa [heq] at hi
      · exact absurd (Option.some.inj (hi.symm.trans hc)) hk
  · rwa [claimTable_of_loss t c reclaim bundle hwin]

/-- R28 to R35: a frame that is of no claim type gives no station an entry. -/
theorem applyPayload_holder (map : Option TrackMap) (t : Table) (c k : Station) (p : Payload)
    (hclaim : p.kind ≠ .claim) (hreclaim : p.kind ≠ .reclaim) (i : Seg)
    (h : (applyPayload map t c p)[i].holder = some k) : t[i].holder = some k := by
  cases p with
  | beacon announce role held blocked lies =>
    rw [applyPayload, beaconTable_get] at h
    rwa [← Entry.holder_congr (beaconEntry_claim map c lies i t[i])]
  | claim tag bundle => exact absurd rfl hclaim
  | reclaim tag bundle => exact absurd rfl hreclaim
  | release segs =>
    rw [applyPayload, releaseTable_get] at h
    split at h
    · cases h
    · exact h
  | lapse set =>
    rw [applyPayload, lapseTable_get] at h
    split at h
    · cases h
    · exact h
  | clear segs =>
    rw [applyPayload, clearedTable_get] at h
    split at h
    · cases h
    · exact h
  | guard segs =>
    rw [applyPayload, guardTable_get] at h
    split at h
    · cases h
    · exact h
  | lie seg lie cause answer =>
    rw [applyPayload, lieTable_get] at h
    split at h
    · exact h
    · exact h

/-- R19, R21: every kind of taken frame keeps the hold limit. -/
theorem holdCount_applyPayload_le (map : Option TrackMap) (t : Table) (c k : Station) (p : Payload)
    (h : holdCount t k ≤ 12) : holdCount (applyPayload map t c p) k ≤ 12 := by
  by_cases hclaim : p.kind = .claim ∨ p.kind = .reclaim
  · cases p with
    | claim tag bundle => exact holdCount_claimTable_le t c k false bundle h
    | reclaim tag bundle => exact holdCount_claimTable_le t c k true bundle h
    | beacon _ _ _ _ _ | release _ | lapse _ | clear _ | guard _ | lie _ _ _ _ => simp [Payload.kind] at hclaim
  · exact (holdCount_mono t _ k (applyPayload_holder map t c k p (mt Or.inl hclaim) (mt Or.inr hclaim))).trans h

/-- R86: what leaves a learned claim HELD: the holdings list, by the sender, or the entry as it was, by another station. -/
theorem learnClaim_held (c k : Station) (r : Option Points) (held : List BundleEntry) (blocked : SegSet) (i : Seg)
    (old : Claim) (h : learnClaim c held blocked i old = .held k r) :
    (k = c ∧ i ∈ held.map (·.seg)) ∨ (k ≠ c ∧ old = .held k r) := by
  unfold learnClaim at h
  cases hfind : held.find? fun e => e.seg == i with
  | some e =>
    have hseg : e.seg = i := by simpa using List.find?_some hfind
    rw [hfind] at h
    cases h
    exact Or.inl ⟨rfl, List.mem_map.mpr ⟨e, List.mem_of_find?_eq_some hfind, hseg⟩⟩
  | none =>
    simp only [hfind] at h
    split at h
    · cases old <;> cases h
    · cases old with
      | free | blocked cause => cases h
      | held j q =>
        by_cases hj : j = c
        · simp [hj] at h
        · simp only [if_neg hj] at h
          cases h
          exact Or.inr ⟨hj, rfl⟩

/-- R19, R86: a learned beacon with a holdings list of at most 12 keeps the hold limit. -/
theorem holdCount_learnBeacon_le (map : Option TrackMap) (t : Table) (c k : Station) (held : List BundleEntry)
    (blocked : SegSet) (lies : List LieEntry) (hshort : held.length ≤ 12) (h : holdCount t k ≤ 12) :
    holdCount (learnBeacon map t c held blocked lies) k ≤ 12 := by
  have hcases : ∀ i : Seg, (learnBeacon map t c held blocked lies)[i].holder = some k →
      (k = c ∧ i ∈ held.map (·.seg)) ∨ (k ≠ c ∧ t[i].holder = some k) := by
    intro i hi
    rw [learnBeacon, tab_get, Entry.holder_eq_some_iff] at hi
    obtain ⟨r, hr⟩ := hi
    exact (learnClaim_held c k r held blocked i _ hr).imp_right fun ⟨hne, hold⟩ =>
      ⟨hne, (Entry.holder_eq_some_iff _ k).mpr ⟨r, hold⟩⟩
  by_cases hk : k = c
  · have hle := holdCount_le_length _ k (held.map (·.seg)) fun i hi =>
      (hcases i hi).elim And.right fun hother => absurd hk hother.1
    rw [List.length_map] at hle
    exact hle.trans hshort
  · exact (holdCount_mono t _ k fun i hi => (hcases i hi).elim (fun hown => absurd hown.1 hk) And.right).trans h

/-- R19, R86, R87: every kind of frame that passed the checks keeps the hold limit where it is learned. -/
theorem holdCount_learnPayload_le (map : Option TrackMap) (t : Table) (c k : Station) (p : Payload)
    (hshort : beaconShort p = true) (h : holdCount t k ≤ 12) : holdCount (learnPayload map t c p) k ≤ 12 := by
  cases p with
  | beacon announce role held blocked lies =>
    exact holdCount_learnBeacon_le map t c k held blocked lies (by simpa [beaconShort] using hshort) h
  | claim _ _ | reclaim _ _ | release _ | lapse _ | clear _ | guard _ | lie _ _ _ _ =>
    exact holdCount_applyPayload_le map t c k _ h

end Sys2Proof.Machine
end

section
/-! The hold limit (R19) along every step. A command that writes neither claim table nor line unit keeps it at once; the others are taken one by one,
with what they make of the table and of the frame on the line. -/
namespace Sys2Proof.Machine

open Sys2Proof

/-! ## Commands that leave the claim table and the line unit -/

/-- R181: a transaction leaves what its command leaves, beside the drive port. -/
theorem transact_keeps {γ : Type} (g : State → γ) (hg : ∀ s x, g (s.setDpt x) = g s) (tests : PortTests)
    (act : State → State × Reply) (s : State) (ha : g (act s).1 = g s) : g (State.transact tests act s) = g s := by
  unfold State.transact
  split
  · exact hg _ _
  · split
    · exact hg _ _
    · exact (hg _ _).trans ha

/-- R182: a command leaves what its effect leaves; refused, it changes nothing. -/
theorem judge_keeps {γ : Type} (g : State → γ) (s : State) (refusal : Option Reason) (effect : State → State)
    (he : g (effect s) = g s) : g (s.judge refusal effect).1 = g s := by
  unfold State.judge
  split
  · rfl
  · exact he

/-- The two blocks the hold limit speaks of. -/
def tableAndLine (s : State) : Table × Liu := (s.ctu, s.liu)

theorem tableAndLine_setDpt (s : State) (x : Dpt) : tableAndLine (s.setDpt x) = tableAndLine s := rfl

/-- R180 to R189: no drive-port command writes the claim table or the line unit. -/
theorem transact_tableAndLine (tests : PortTests) (act : State → State × Reply) (s : State)
    (ha : tableAndLine (act s).1 = tableAndLine s) : tableAndLine (State.transact tests act s) = tableAndLine s :=
  transact_keeps tableAndLine tableAndLine_setDpt tests act s ha

theorem takeNotice_tableAndLine (s : State) : tableAndLine s.takeNotice.1 = tableAndLine s := by
  unfold State.takeNotice; split <;> rfl

theorem loadAct_tableAndLine (segs : List Seg) (s : State) : tableAndLine (State.loadAct segs s).1 = tableAndLine s := by
  unfold State.loadAct
  split
  · rfl
  · split
    · rfl
    · simp [tableAndLine]

theorem takeAct_tableAndLine (serial : Byte) (s : State) : tableAndLine (State.takeAct serial s).1 = tableAndLine s := by
  unfold State.takeAct
  split
  · rfl
  · split
    · simp [tableAndLine]
    · rfl
  · rfl

theorem resumeAct_tableAndLine (s : State) : tableAndLine s.resumeAct.1 = tableAndLine s := by
  unfold State.resumeAct
  split
  · rfl
  · split
    · exact judge_keeps tableAndLine s _ _ (by simp [tableAndLine])
    · rfl

theorem throwAct_tableAndLine (seg : Seg) (lie : Option Points) (s : State) :
    tableAndLine (State.throwAct seg lie s).1 = tableAndLine s := by
  unfold State.throwAct
  split
  · exact judge_keeps tableAndLine s _ _ (by simp [tableAndLine])
  · rfl

theorem readFailed_tableAndLine (s : State) : tableAndLine s.readFailed = tableAndLine s := by
  unfold State.readFailed; split <;> simp [tableAndLine]

/-- What holds before and after the effect of a command holds after the command, held in reset or not. -/
theorem live_of {P : State → Prop} {f : State → State} {s t : State} (h : live f s = .next t) (hs : P s) (hf : P (f s)) :
    P t := by
  unfold live at h
  cases h
  split
  · exact hs
  · exact hf

/-- A command whose list of written blocks (Safety.lean) has neither claim table nor line unit leaves both. -/
theorem exec_tableAndLine (i : Instr) (s t : State) (hctu : Block.ctu ∉ mayChange i) (hliu : Block.liu ∉ mayChange i)
    (h : exec i s = .next t) : tableAndLine t = tableAndLine s := by
  have run : ∀ f : State → State, live f s = .next t → tableAndLine (f s) = tableAndLine s →
      tableAndLine t = tableAndLine s := fun f hl hf => live_of (P := fun u => tableAndLine u = tableAndLine s) hl rfl hf
  cases i with
  | storeRetryWait =>
    refine run _ h ?_
    split
    · exact readFailed_tableAndLine s
    · rfl
  | clockStretchTimeout | listenTimerExpiry | remoteLeaseExpiry _ | beaconTimerExpiry | holdOffExpiry
  | keepTimerExpiry | staggerExpiry =>
    refine run _ h ?_
    split <;> simp [tableAndLine]
  | spdPeriodStart | odometerCount | tagReceived _ _ _ | filteredOdometerFall | lockLevelChange _ _ _
  | occupancyChange _ _ | busyTransaction =>
    simp only [exec, execSpdPeriodStart, execOdometerCount, execTagReceived, execFilteredOdometerFall,
      execLockLevelChange, execOccupancyChange, execBusyTransaction] at h
    exact run _ h (by simp [tableAndLine])
  | lieWaitExpiry _ =>
    simp only [exec, execLieWaitExpiry] at h
    refine run _ h ?_
    split <;> simp [tableAndLine]
  | throwTimerExpiry _ =>
    simp only [exec, execThrowTimerExpiry] at h
    refine run _ h ?_
    split
    · split <;> simp [tableAndLine]
    · rfl
  | invalidCommand _ =>
    simp only [exec, execInvalidCommand] at h
    refine run _ h ?_
    split
    · rfl
    · exact transact_tableAndLine _ _ s rfl
  | status | readEntry _ | readPeer _ => exact run _ h (transact_tableAndLine _ _ s rfl)
  | notice => exact run _ h (transact_tableAndLine _ _ s (takeNotice_tableAndLine s))
  | clearCommand _ | locate _ _ _ | cancel | docked | keep | possess _ | unpossess =>
    exact run _ h (transact_tableAndLine _ _ s (judge_keeps tableAndLine s _ _ (by simp [tableAndLine])))
  | loadRoute _ => exact run _ h (transact_tableAndLine _ _ s (loadAct_tableAndLine _ s))
  | take _ => exact run _ h (transact_tableAndLine _ _ s (takeAct_tableAndLine _ s))
  | resume => exact run _ h (transact_tableAndLine _ _ s (resumeAct_tableAndLine s))
  | throw _ _ => exact run _ h (transact_tableAndLine _ _ s (throwAct_tableAndLine _ _ s))
  | reset | resetRelease | optionReadEnd _ _ | detectorSettleEnd _ _ _ _ | settleTimeout _ _ _ _ | lineIdle
  | transmitStart | frameStartReceived | stuffError _ | frameClassify _ | arbitrationLost | clash _ | breakEnd
  | vetoSlotEnd _ | driveFailure | frameRejected _ | beaconTaken _ | claimTaken _ | reclaimTaken _ | releaseTaken _
  | lapseTaken _ | clearTaken _ | guardTaken _ | lieTaken _ | ownLeaseExpiry | listenLimitExpiry =>
    simp [mayChange] at hctu hliu

/-! ## The frame on the line -/

/-- R19, R64: a frame on the line, own or classified, carries no holdings list beyond 12. -/
def LineFrame.Short (f : LineFrame) : Prop :=
  (∀ o, f.own = some o → beaconShort o.payload = true) ∧
    ∀ r p, f.received = some r → r.content = some p → beaconShort p = true

/-- R46, R47: a frame this station no longer counts as its own is short when what it received is. -/
theorem LineFrame.short_of_noOwn {f : LineFrame} (hown : f.own = none)
    (hr : ∀ r p, f.received = some r → r.content = some p → beaconShort p = true) : f.Short :=
  ⟨fun o ho => (Option.some_ne_none o (ho.symm.trans hown)).elim, hr⟩

/-- R19: the hold law by its two blocks. -/
theorem holdLaw_iff (s : State) :
    HoldLaw s ↔ (∀ k, holdCount s.ctu k ≤ 12) ∧ ∀ f, s.liu.line = some f → f.Short := Iff.rfl

/-- R19: the hold law goes by the claim table and the frame on the line alone. -/
theorem HoldLaw.congr {s t : State} (hs : HoldLaw s) (hctu : t.ctu = s.ctu) (hline : t.liu.line = s.liu.line) :
    HoldLaw t := by
  rw [holdLaw_iff, hctu, hline]; exact hs

/-- R19: the frame on the line under the law. -/
theorem HoldLaw.short {s : State} (hs : HoldLaw s) : ∀ f, s.liu.line = some f → f.Short := hs.2

/-- R19: it holds on, when the two blocks do. -/
theorem HoldLaw.of_tableAndLine {s t : State} (hs : HoldLaw s) (h : tableAndLine t = tableAndLine s) : HoldLaw t := by
  obtain ⟨hctu, hliu⟩ := Prod.mk.inj h
  exact hs.congr hctu (by rw [hliu])

/-- R16, R19: a cleared table meets the law, with a frame on the line that does. -/
theorem holdLaw_of_cleared {t : State} (map : Option TrackMap) (hctu : t.ctu = clearTable map)
    (hline : ∀ f, t.liu.line = some f → f.Short) : HoldLaw t :=
  ⟨fun k => by rw [hctu, holdCount_clearTable]; omega, hline⟩

/-- R41: with no frame on the line the law is about the table alone. -/
theorem holdLaw_of_noLine {t : State} (hctu : ∀ k, holdCount t.ctu k ≤ 12) (hline : t.liu.line = none) : HoldLaw t :=
  ⟨hctu, fun f hf => by rw [hline] at hf; cases hf⟩

/-- R41, R61: the line unit goes on with another frame that meets the law. -/
theorem HoldLaw.setLiu {s : State} (hs : HoldLaw s) (l : Liu) (hl : ∀ f, l.line = some f → f.Short) :
    HoldLaw (s.setLiu l) := ⟨hs.1, hl⟩

/-- R61: the frame on the line changes to one that meets the law. -/
theorem HoldLaw.setLine {s : State} (hs : HoldLaw s) (phase : Phase) (f : LineFrame) (hf : f.Short) :
    HoldLaw (s.setLine phase (some f)) := hs.setLiu _ fun g hg => by cases hg; exact hf

/-- R61: the frame on the line, if there is one, loses parts. -/
theorem HoldLaw.mapLine {s : State} (hs : HoldLaw s) (phase : Phase) (g : LineFrame → LineFrame)
    (hg : ∀ f, f.Short → (g f).Short) : HoldLaw (s.setLine phase (s.liu.line.map g)) := by
  refine hs.setLiu _ fun f hf => ?_
  obtain ⟨e, he, rfl⟩ := Option.map_eq_some_iff.mp hf
  exact hg e (hs.short e he)

/-- R41: the line unit gives its frame up. -/
theorem HoldLaw.seekIdle {s : State} (hs : HoldLaw s) (recessive : Nat) : HoldLaw (s.seekIdle recessive) :=
  holdLaw_of_noLine hs.1 rfl

/-- R91: a sighting touches neither block. -/
theorem HoldLaw.sightingLost {s : State} (hs : HoldLaw s) : HoldLaw s.sightingLost := hs.congr (by simp) (by simp)

/-- R77: nor does an outcome at the transmit queue. -/
theorem HoldLaw.sendOver {s : State} (hs : HoldLaw s) (o : SendOutcome) : HoldLaw (s.sendOver o) :=
  hs.congr (by simp) (by simp)

/-- R20, R76: the payload this station sends lists its own holdings. -/
theorem HoldLaw.beaconShort_payloadOf {s : State} (hs : HoldLaw s) (e : TxEntry) : beaconShort (s.payloadOf e) = true := by
  have hbeacon : beaconShort s.beacon = true := by simpa [beaconShort, State.beacon, length_holdings] using hs.1 s.me
  unfold State.payloadOf
  split
  case h_8 => exact hbeacon
  all_goals rfl

/-- R66: a payload that passes the checks has no holdings list beyond 12. -/
theorem beaconShort_of_payloadGood (map : Option TrackMap) (roster : StationSet) (sender : Station) (p : Payload)
    (h : payloadGood map roster sender p = true) : beaconShort p = true := by
  cases p with
  | beacon announce role held blocked lies =>
    rw [payloadGood, Bool.and_eq_true] at h
    exact h.2
  | claim _ _ | reclaim _ _ | release _ | lapse _ | clear _ | guard _ | lie _ _ _ _ => rfl

/-- R50: so has the content of a received frame. -/
theorem beaconShort_of_frameContent (map : Option TrackMap) (roster : StationSet) (f : Frame) (p : Payload)
    (h : frameContent map roster f = some p) : beaconShort p = true := by
  unfold frameContent at h
  split at h
  · split at h
    · exact beaconShort_of_payloadGood map roster _ p (Option.filter_eq_some_iff.mp h).2
    · cases h
  · cases h

/-- R42: the own frame from its start bit on. -/
theorem HoldLaw.startSend {s : State} (hs : HoldLaw s) (e : TxEntry) : HoldLaw (s.startSend e) := by
  refine HoldLaw.setLine (hs.congr rfl rfl) .send _ ⟨fun o ho => ?_, fun r p hr => by cases hr⟩
  cases ho
  exact hs.beaconShort_payloadOf e

/-- R42: another station's frame from its start bit on. -/
theorem HoldLaw.startReceive {s : State} (hs : HoldLaw s) : HoldLaw s.startReceive := by
  unfold State.startReceive
  exact hs.setLine .receive _ (LineFrame.short_of_noOwn rfl fun r p hr => by cases hr)

/-- R59: the counted identity leaves the frame on the line. -/
@[simp] theorem Liu.countFor_line (l : Liu) (id : SendId) : (l.countFor id).line = l.line := by
  unfold Liu.countFor
  split <;> rfl

/-- R59: so does the count of a clash. -/
@[simp] theorem Liu.countClash_line (l : Liu) (arbitrated : Bool) (id : SendId) :
    (l.countClash arbitrated id).line = l.line := by
  unfold Liu.countClash
  split
  · exact Liu.countFor_line l id
  · rfl

/-- R51: the sender's frame classified. -/
theorem HoldLaw.classifyOwn {s : State} (hs : HoldLaw s) (line : LineFrame) (own : OwnFrame)
    (hline : s.liu.line = some line) (hown : line.own = some own) : HoldLaw (s.classifyOwn line own) := by
  have hshort : line.Short := hs.short line hline
  have hset : HoldLaw (s.setLine (s.liu.phase.afterCrc own.frame) (some { line with received := some own.received })) := by
    refine hs.setLine _ _ ⟨hshort.1, fun r p hr hp => ?_⟩
    cases hr
    cases hp
    exact hshort.1 own hown
  unfold State.classifyOwn
  dsimp only
  split
  · exact hset.congr rfl (Liu.countFor_line _ _)
  · exact hset

/-- R51: a received frame classified. -/
theorem HoldLaw.classifyOther {s : State} (hs : HoldLaw s) (line : LineFrame) (f : Frame)
    (hline : s.liu.line = some line) : HoldLaw (s.classifyOther line f) := by
  have hset : HoldLaw (s.setLine (s.liu.phase.afterCrc f) (some { line with received := some (s.classify f) })) := by
    refine hs.setLine _ _ ⟨(hs.short line hline).1, fun r p hr hp => ?_⟩
    cases hr
    exact beaconShort_of_frameContent _ _ f p hp
  unfold State.classifyOther
  dsimp only
  split
  · split
    · exact hset.congr rfl rfl
    · exact hset
  · exact hset.congr rfl rfl
  · exact hset

/-! ## Relisten, retry and halt -/

/-- R96: the line unit at a relisten. -/
theorem relisten_liu (s : State) (cause : ChangeCause) (h : s.online = true) :
    (s.relisten cause).liu = s.liu.clearCounts.dropOut := by
  simp [State.relisten, h]

/-- R96: the table at a relisten. -/
theorem relisten_ctu (s : State) (cause : ChangeCause) (h : s.online = true) :
    (s.relisten cause).ctu = clearTable s.opr.map := by
  simp [State.relisten, h]

/-- R96: a relisten clears the table and leaves the payload of the frame on the line. -/
theorem HoldLaw.relisten {s : State} (hs : HoldLaw s) (cause : ChangeCause) : HoldLaw (s.relisten cause) := by
  by_cases honline : s.online = true
  · refine holdLaw_of_cleared s.opr.map (relisten_ctu s cause honline) fun f hf => ?_
    rw [relisten_liu s cause honline] at hf
    obtain ⟨g, hg, rfl⟩ := Option.map_eq_some_iff.mp hf
    exact hs.short g hg
  · rw [State.relisten, if_neg honline]
    exact hs

theorem HoldLaw.relistenIf {s : State} (hs : HoldLaw s) (b : Bool) (cause : ChangeCause) :
    HoldLaw (s.relistenIf b cause) := by
  unfold State.relistenIf
  split
  · exact hs.relisten cause
  · exact hs

theorem HoldLaw.countVeto {s : State} (hs : HoldLaw s) : HoldLaw s.countVeto :=
  (hs.setLiu { s.liu with vetoRun := s.liu.vetoRun + 1 } hs.short).relistenIf _ _

theorem HoldLaw.countRejection {s : State} (hs : HoldLaw s) : HoldLaw s.countRejection :=
  (hs.setLiu { s.liu with rejections := s.liu.rejections + 1 } hs.short).relistenIf _ _

/-- R97: DUPLICATE_HALT clears the table and switches the line unit off. -/
theorem holdLaw_duplicateHalt (s : State) : HoldLaw s.duplicateHalt :=
  holdLaw_of_cleared s.opr.map (by simp [State.duplicateHalt]) fun f hf => by
    simp [State.duplicateHalt, Liu.off] at hf

/-- R90: the retry clears the table. -/
theorem HoldLaw.retry {s : State} (hs : HoldLaw s) : HoldLaw s.retry :=
  holdLaw_of_cleared s.opr.map (by simp [State.retry]) (by simpa using hs.short)

/-! ## From the start bit to the verdict -/

/-- R46: an arbitration lost. -/
theorem HoldLaw.loseArbitration {s : State} (hs : HoldLaw s) : HoldLaw s.loseArbitration := by
  unfold State.loseArbitration
  refine HoldLaw.sendOver (hs.mapLine .receive _ fun f hf => ?_) .notSent
  exact LineFrame.short_of_noOwn (f := { f with own := none }) rfl hf.2

/-- R47: a clash. -/
theorem HoldLaw.clashSend {s : State} (hs : HoldLaw s) (arbitrated : Bool) : HoldLaw (s.clashSend arbitrated) := by
  have hset : HoldLaw (s.setLine .receive (s.liu.line.map LineFrame.afterClash)) :=
    hs.mapLine .receive _ fun f hf => LineFrame.short_of_noOwn (f := f.afterClash) rfl hf.2
  unfold State.clashSend
  dsimp only
  split
  · next e _ =>
    refine HoldLaw.countRejection (HoldLaw.sendOver (hset.setLiu _ fun f hf => hset.short f ?_) .rejected)
    rwa [Liu.countClash_line] at hf
  · exact hset

/-- R48, R49: a stuff error. -/
theorem HoldLaw.stuffError {s : State} (hs : HoldLaw s) (recessive : Bool) : HoldLaw (s.stuffError recessive) := by
  unfold State.stuffError
  split
  · exact hs.congr rfl rfl
  · exact (hs.seekIdle _).sightingLost

/-- R49: the end of a break. -/
theorem HoldLaw.endBreak {s : State} (hs : HoldLaw s) : HoldLaw s.endBreak := by
  unfold State.endBreak
  dsimp only
  split
  · exact (hs.seekIdle 0).sightingLost.countVeto
  · exact (hs.seekIdle 0).sightingLost

/-- R52: the reading of the veto slot. -/
theorem HoldLaw.readVeto {s : State} (hs : HoldLaw s) (line : LineFrame) (dominant : Bool)
    (hline : s.liu.line = some line) : HoldLaw (s.readVeto line dominant) := by
  have hset : HoldLaw (s.setLine .slots (some { line with veto := some dominant })) := hs.setLine _ _ (hs.short line hline)
  unfold State.readVeto
  dsimp only
  split
  · split
    · exact hset.countVeto
    · exact hset.relisten _
  · exact hset

/-- R54: the verdict REJECTED. -/
theorem HoldLaw.rejectFrame {s : State} (hs : HoldLaw s) (line : LineFrame) : HoldLaw (s.rejectFrame line) := by
  have hseek : HoldLaw (s.seekIdle 0).sightingLost := (hs.seekIdle 0).sightingLost
  unfold State.rejectFrame
  dsimp only
  split
  · split
    · exact (hseek.sendOver .rejected).countRejection
    · exact hseek.sendOver .rejected
  · exact hseek

/-! ## The verdict TAKEN -/

/-- R57, R59: the outcome TAKEN leaves the frame on the line. -/
theorem sendTaken_line (s : State) (own : Bool) : (s.sendTaken own).1.liu.line = s.liu.line := by
  unfold State.sendTaken
  split <;> rfl

/-- R21: a frame with unreadable content changes no claim table. -/
theorem takenOnline_ctu_of_none (s : State) (own : Bool) (r : Received) (tally : StationSet) (hc : r.content = none) :
    (s.takenOnline own r tally).ctu = s.ctu := by
  unfold State.takenOnline
  rw [hc]
  dsimp only
  repeat' split
  all_goals simp [State.applyFrame]

/-- R21, R22: a taken frame in ANNOUNCE and ACTIVE. -/
theorem HoldLaw.takenOnline {s : State} (hs : HoldLaw s) (own : Bool) (r : Received) (tally : StationSet) :
    HoldLaw (s.takenOnline own r tally) := by
  refine ⟨fun k => ?_, fun f hf => hs.2 f ?_⟩
  · cases hc : r.content with
    | none => rw [takenOnline_ctu_of_none s own r tally hc]; exact hs.1 k
    | some p => rw [takenOnline_ctu s own r p tally hc]; exact holdCount_applyPayload_le _ _ _ k p (hs.1 k)
  · rwa [takenOnline_liu, sendTaken_line] at hf

/-- R86 to R88: what a listening station hears. -/
theorem HoldLaw.hear {s : State} (hs : HoldLaw s) (r : Received)
    (hshort : ∀ p, r.content = some p → beaconShort p = true) : HoldLaw (s.hear r) := by
  unfold State.hear
  split
  · split
    · next p hp =>
      refine ⟨fun k => ?_, hs.2⟩
      exact holdCount_learnPayload_le _ _ _ k p (hshort p hp) (hs.1 k)
    · exact hs
  · exact hs.congr (by simp) (by simp)
  · exact hs.congr (by simp) (by simp)

/-- R85 to R91: a taken frame in LISTEN. -/
theorem HoldLaw.takenListening {s : State} (hs : HoldLaw s) (r : Received) (tally : StationSet)
    (hshort : ∀ p, r.content = some p → beaconShort p = true) : HoldLaw (s.takenListening r tally) :=
  (hs.hear r hshort).congr (by simp [State.takenListening]) (by simp [State.takenListening])

/-- R56, R60: the verdict TAKEN, under every station state. -/
theorem HoldLaw.takenRow {s : State} (hs : HoldLaw s) (k : Kind) (slots : StationSet) : HoldLaw (s.takenRow k slots) := by
  unfold State.takenRow
  split
  · exact hs
  · next line hline =>
    split
    · exact hs
    · next r hr =>
      split
      · unfold State.taken
        split
        · exact holdLaw_duplicateHalt s
        · dsimp only
          split
          · exact (hs.seekIdle 0).takenOnline _ r _
          · exact (hs.seekIdle 0).takenListening r _ fun p hp => (hs.short line hline).2 r p hr hp
      · exact hs

/-! ## Start-up -/

/-- R194: the power-up values. -/
theorem holdLaw_powerUp (s : State) (held : Bool) : HoldLaw (s.powerUp held) :=
  holdLaw_of_noLine (fun k => by simp [State.powerUp, State.reset, holdCount, Entry.heldBy, Entry.holder]) rfl

/-- R62, R83: START is left with no frame on the line. -/
theorem HoldLaw.leaveStart {s : State} (hs : HoldLaw s) : HoldLaw s.leaveStart :=
  holdLaw_of_noLine (by simpa using hs.1) (by simp [State.leaveStart, Liu.seek])

/-- R164: the end of the settle. -/
theorem HoldLaw.endSettle {s : State} (hs : HoldLaw s) (inputs : Vector Inputs 4) : HoldLaw (s.endSettle inputs) := by
  unfold State.endSettle
  dsimp only
  split
  · exact (hs.congr rfl rfl : HoldLaw (s.setToc _)).leaveStart
  · exact hs.congr rfl rfl

/-- R195 to R200: the end of the option read. -/
theorem HoldLaw.endRead {s : State} (hs : HoldLaw s) (store : List Byte) (odo : Bool) : HoldLaw (s.endRead store odo) := by
  unfold State.endRead
  split
  · exact hs.congr (by simp) (by simp)
  · next o m _ =>
    have hinstall : HoldLaw ((s.install o m).settleOdometer odo) :=
      holdLaw_of_cleared (some m) (by simp [State.install]) (by simpa using hs.short)
    unfold State.tryLeaveStart
    split
    · exact hinstall.leaveStart
    · exact hinstall.congr rfl rfl

/-! ## Every command -/

/-- R19: every command keeps the hold law. -/
theorem exec_holdLaw (i : Instr) (s t : State) (hs : HoldLaw s) (h : exec i s = .next t) : HoldLaw t := by
  have quiet : Block.ctu ∉ mayChange i → Block.liu ∉ mayChange i → HoldLaw t := fun hctu hliu =>
    hs.of_tableAndLine (exec_tableAndLine i s t hctu hliu h)
  have run : ∀ f : State → State, live f s = .next t → HoldLaw (f s) → HoldLaw t := fun f hl hf => live_of hl hs hf
  cases i with
  | reset => cases h; exact holdLaw_powerUp s true
  | resetRelease =>
    cases h
    split
    · exact holdLaw_powerUp s false
    · exact hs
  | optionReadEnd store odo =>
    refine run _ h ?_
    split
    · exact hs.endRead store odo
    · exact hs
  | detectorSettleEnd _ _ _ _ | settleTimeout _ _ _ _ =>
    refine run _ h ?_
    split
    · exact hs.endSettle _
    · exact hs
  | lineIdle =>
    refine run _ h ?_
    split
    · exact hs.congr rfl rfl
    · exact hs
  | transmitStart =>
    simp only [exec, execTransmitStart] at h
    refine run _ h ?_
    split
    · split
      · exact hs.startSend _
      · exact hs
    · exact hs
  | frameStartReceived =>
    simp only [exec, execFrameStartReceived] at h
    refine run _ h ?_
    split
    · split
      · exact hs.startSend _
      · exact hs.startReceive
    · exact hs.startReceive
    all_goals exact hs
  | arbitrationLost =>
    refine run _ h ?_
    split
    · exact hs.loseArbitration
    · exact hs
  | clash arbitrated =>
    refine run _ h ?_
    split
    · exact hs.clashSend arbitrated
    · exact hs
  | stuffError recessive =>
    refine run _ h ?_
    split
    · exact hs.stuffError recessive
    · exact hs
  | breakEnd =>
    refine run _ h ?_
    split
    · exact hs.endBreak
    · exact hs
  | frameClassify f =>
    simp only [exec, execFrameClassify] at h
    refine run _ h ?_
    split
    · exact hs
    · next line hline =>
      split
      · next own _ hown _ => exact hs.classifyOwn line own hline hown
      · exact hs.classifyOther line f hline
      · exact hs
  | vetoSlotEnd dominant =>
    simp only [exec, execVetoSlotEnd] at h
    refine run _ h ?_
    split
    · exact hs
    · next line hline =>
      split
      · exact hs.readVeto line dominant hline
      · exact hs
  | driveFailure =>
    simp only [exec, execDriveFailure] at h
    refine run _ h ?_
    split
    · exact hs
    · next line hline =>
      split
      · exact hs.readVeto line false hline
      · split
        · exact hs.relisten _
        · exact hs
  | frameRejected slots =>
    simp only [exec, execFrameRejected] at h
    refine run _ h ?_
    split
    · exact hs
    · split
      · exact hs.rejectFrame _
      · exact hs
  | beaconTaken slots | claimTaken slots | reclaimTaken slots | releaseTaken slots | lapseTaken slots | clearTaken slots
  | guardTaken slots | lieTaken slots => exact run _ h (hs.takenRow _ slots)
  | ownLeaseExpiry =>
    refine run _ h ?_
    split
    · exact hs.relisten _
    · exact hs
  | listenLimitExpiry =>
    refine run _ h ?_
    split
    · exact hs.retry
    · exact hs
  | storeRetryWait | clockStretchTimeout | listenTimerExpiry | remoteLeaseExpiry _ | beaconTimerExpiry | holdOffExpiry
  | lieWaitExpiry _ | keepTimerExpiry | spdPeriodStart | odometerCount | tagReceived _ _ _ | lockLevelChange _ _ _
  | throwTimerExpiry _ | occupancyChange _ _ | staggerExpiry | busyTransaction | invalidCommand _ | status | notice
  | readEntry _ | readPeer _ | clearCommand _ | locate _ _ _ | loadRoute _ | cancel | take _ | resume | docked | keep
  | possess _ | unpossess | throw _ _ | filteredOdometerFall => exact quiet (by simp [mayChange]) (by simp [mayChange])

/-- Settles O58: an empty queue is a millisecond, which is no part of the law, and a command keeps it (`exec_holdLaw`). -/
theorem stepsKeepTheHoldLaw : Obligations.StepsKeepTheHoldLaw := by
  intro s t hs h
  unfold step at h
  split at h
  · cases h
    unfold State.tick
    split
    · exact hs
    · exact hs.congr rfl rfl
  · next i rest _ => exact exec_holdLaw i (s.setPending rest) t (hs.congr rfl rfl) h

end Sys2Proof.Machine
end

section
/-! The transmit queue after a taken frame (R56, R72 to R74, R77, R78): what requests leave of an entry, and that acting on a change report and entering
ACTIVE do nothing to the queue but request a RELEASE, a claim or a LIE. -/
namespace Sys2Proof.Machine

open Sys2Proof

/-! ## Joined argument sets (R73) -/

theorem Args.join_self (a : Args) : a.join a = a := by
  cases a <;> simp [Args.join]

/-- R73: two requests joined one after the other are one request joined. -/
theorem Args.join_join (a b c : Args) : ∃ d, (a.join b).join c = a.join d := by
  cases a with
  | beacon | claim _ _ _ => exact ⟨c, rfl⟩
  | segs x =>
    cases b with
    | segs y =>
      cases c with
      | segs z => exact ⟨.segs (y ||| z), by simp [Args.join, BitVec.or_assoc]⟩
      | beacon | claim _ _ _ | stations _ | lie _ _ => exact ⟨.segs y, rfl⟩
    | beacon | claim _ _ _ | stations _ | lie _ _ => exact ⟨c, rfl⟩
  | stations x =>
    cases b with
    | stations y =>
      cases c with
      | stations z => exact ⟨.stations (y ||| z), by simp [Args.join, BitVec.or_assoc]⟩
      | beacon | claim _ _ _ | segs _ | lie _ _ => exact ⟨.stations y, rfl⟩
    | beacon | claim _ _ _ | segs _ | lie _ _ => exact ⟨c, rfl⟩
  | lie cause answer =>
    cases c with
    | lie cause' answer' =>
      refine ⟨.lie cause' answer', ?_⟩
      cases b <;> rfl
    | beacon | claim _ _ _ | segs _ | stations _ =>
      refine ⟨b, ?_⟩
      cases b <;> rfl

/-! ## The entry of a key, and the members of the queue -/

/-- The entry of a key is a member. -/
theorem Txq.mem_of_find {q : Txq} {k : EntryKey} {e : TxEntry} (h : q.find k = some e) : e ∈ q.entries :=
  List.mem_of_find?_eq_some h

/-- R57: the entry in flight is a member, so that its key is found. -/
theorem Txq.find_isSome_of_flying {q : Txq} {e : TxEntry} (h : q.flying = some e) : (q.find e.key).isSome = true :=
  (Txq.find_isSome q e.key).mpr (List.mem_map.mpr ⟨e, List.mem_of_find?_eq_some h, rfl⟩)

/-- A replaced entry is what its key finds. -/
theorem Txq.find_replace_self (q : Txq) (k : EntryKey) (e : TxEntry) (he : e.key = k) (h : (q.find k).isSome = true) :
    (q.replace k (some e)).find k = some e := by
  unfold Txq.find Txq.replace at *
  dsimp only
  generalize q.entries = entries at h ⊢
  induction entries with
  | nil => cases h
  | cons x rest ih =>
    by_cases hx : x.key = k
    · simp [hx, he]
    · simpa [hx] using ih (by simpa [hx] using h)

/-- A removed entry is not found. -/
theorem Txq.find_replace_none (q : Txq) (k : EntryKey) : (q.replace k none).find k = none := by
  simp only [Txq.find, Txq.replace, List.find?_eq_none, List.mem_filterMap]
  rintro x ⟨y, -, hy⟩
  split at hy
  · cases hy
  · next hne => cases hy; simpa using hne

/-- Replacing or removing one entry leaves what other keys find. -/
theorem Txq.find_replace_of_ne (q : Txq) (k k' : EntryKey) (e : Option TxEntry) (hne : k ≠ k')
    (he : ∀ x, e = some x → x.key = k) : (q.replace k e).find k' = q.find k' := by
  simp only [Txq.find, Txq.replace]
  induction q.entries with
  | nil => rfl
  | cons x rest ih =>
    by_cases hx : x.key = k
    · cases e with
      | none => simpa [hx, hne] using ih
      | some y => simpa [hx, hne, he y rfl] using ih
    · by_cases hk' : x.key = k'
      · simp [hk', Ne.symm hne]
      · simpa [hx, hk'] using ih

/-- The members after an entry was replaced or removed. -/
theorem Txq.mem_replace {q : Txq} {k : EntryKey} {e : Option TxEntry} {x : TxEntry} (h : x ∈ (q.replace k e).entries) :
    x ∈ q.entries ∧ x.key ≠ k ∨ e = some x := by
  simp only [Txq.replace, List.mem_filterMap] at h
  obtain ⟨y, hy, hyx⟩ := h
  split at hyx
  · exact Or.inr hyx
  · next hne => cases hyx; exact Or.inl ⟨hy, hne⟩

/-- R72: a new entry leaves what other keys find. -/
theorem Txq.find_create_of_ne (q : Txq) (k k' : EntryKey) (args : Args) (hne : k ≠ k') :
    (q.create k args).find k' = q.find k' := by
  simp [Txq.find, Txq.create, hne]

/-! ## What a request leaves (R72 to R74) -/

/-- R72: a request of one key leaves what other keys find. -/
theorem Txq.find_request_of_ne (q : Txq) (k k' : EntryKey) (args : Args) (hne : k ≠ k') :
    (q.request k args).find k' = q.find k' := by
  unfold Txq.request
  split
  · rfl
  · split
    · exact q.find_create_of_ne k k' args hne
    · next e he =>
      have hkey : e.key = k := find_some_key he
      split
      · rfl
      · split
        · exact q.find_replace_of_ne k k' _ hne (by rintro x ⟨⟩; exact hkey)
        · unfold Txq.addPending
          split
          · rfl
          · split
            · exact q.find_replace_of_ne e.key k' _ (hkey ▸ hne) (by rintro x ⟨⟩; rfl)
            · exact q.find_replace_of_ne e.key k' _ (hkey ▸ hne) (by rintro x ⟨⟩; rfl)

/-- R73: a request joins the entry of its key that waits, or leaves it. -/
theorem Txq.find_request_of_waiting (q : Txq) (k : EntryKey) (args : Args) (e : TxEntry) (he : q.find k = some e)
    (hwait : e.flight = none) : ∃ more, (q.request k args).find k = some { e with args := e.args.join more } := by
  have hkey : e.key = k := find_some_key he
  have hkeep : ∃ more, q.find k = some { e with args := e.args.join more } := ⟨e.args, by rw [Args.join_self, he]⟩
  unfold Txq.request
  split
  · exact hkeep
  · rw [he]
    dsimp only
    split
    · exact hkeep
    · split
      · exact ⟨args, q.find_replace_self k { e with args := e.args.join args } hkey (by simp [he])⟩
      · next f hf => rw [hwait] at hf; cases hf

/-- Every entry of a key was created at an age or later. -/
def Txq.NewSince (q : Txq) (k : EntryKey) (age : Nat) : Prop :=
  age ≤ q.nextAge ∧ ∀ x ∈ q.entries, x.key = k → age ≤ x.age

/-- Replacing an entry by one of its key and age keeps the ages. -/
theorem Txq.NewSince.replace {q : Txq} {k : EntryKey} {age : Nat} (h : q.NewSince k age) (e e' : TxEntry)
    (he : e ∈ q.entries) (hkey : e'.key = e.key) (hage : e'.age = e.age) :
    (q.replace e.key (some e')).NewSince k age := by
  refine ⟨h.1, fun x hx hxk => ?_⟩
  rcases Txq.mem_replace hx with ⟨hmem, -⟩ | hnew
  · exact h.2 x hmem hxk
  · cases hnew
    rw [hage]
    exact h.2 e he (hkey ▸ hxk)

/-- R72, R74: a request keeps the ages, and an entry it creates takes the next age. -/
theorem Txq.NewSince.request {q : Txq} {k : EntryKey} {age : Nat} (h : q.NewSince k age) (k' : EntryKey) (args : Args) :
    (q.request k' args).NewSince k age := by
  unfold Txq.request
  split
  · exact h
  · split
    · refine ⟨h.1.trans (Nat.le_succ _), fun x hx hxk => ?_⟩
      rcases List.mem_append.mp hx with hold | hnew
      · exact h.2 x hold hxk
      · cases List.mem_singleton.mp hnew
        exact h.1
    · next e he =>
      have hmem : e ∈ q.entries := Txq.mem_of_find he
      split
      · exact h
      · split
        · have hkey : e.key = k' := find_some_key he
          exact hkey ▸ h.replace e { e with args := e.args.join args } hmem rfl rfl
        · unfold Txq.addPending
          split
          · exact h
          · split
            · exact h.replace e _ hmem rfl rfl
            · refine ⟨h.1.trans (Nat.le_succ _), (h.replace e _ hmem ?_ ?_).2⟩
              · rfl
              · rfl

/-! ## Stations withdrawn from the LAPSE entry (R78) -/

/-- R78: an entry of another kind is left. -/
theorem TxEntry.withoutStations_of_ne (e : TxEntry) (set : StationSet) (h : e.key ≠ .lapse) :
    e.withoutStations set = some e := by
  rw [TxEntry.withoutStations, if_neg h]

/-- R78: what is left of an entry keeps its key and its age. -/
theorem TxEntry.withoutStations_key_age {e x : TxEntry} {set : StationSet} (h : e.withoutStations set = some x) :
    x.key = e.key ∧ x.age = e.age := by
  unfold TxEntry.withoutStations at h
  split at h
  · split at h
    · split at h
      · cases h
      · cases h; exact ⟨rfl, rfl⟩
    · cases h; exact ⟨rfl, rfl⟩
  · cases h; exact ⟨rfl, rfl⟩

/-- R78: the other kinds are left. -/
theorem Txq.find_withoutStations (q : Txq) (set : StationSet) (k : EntryKey) (h : k ≠ .lapse) :
    (q.withoutStations set).find k = q.find k := by
  simp only [Txq.find, Txq.withoutStations]
  induction q.entries with
  | nil => rfl
  | cons e rest ih =>
    by_cases hlapse : e.key = .lapse
    · have hne : (e.key == k) = false := by simpa [hlapse] using Ne.symm h
      rw [List.find?_cons_of_neg (by simp [hne]), ← ih, List.filterMap_cons]
      split
      · rfl
      · next x hx =>
        have hkey := (TxEntry.withoutStations_key_age hx).1
        rw [List.find?_cons_of_neg (by simp [hkey, hne])]
    · rw [List.filterMap_cons, e.withoutStations_of_ne set hlapse]
      simp only [List.find?_cons, ih]

/-- R78: the ages stay. -/
theorem Txq.NewSince.withoutStations {q : Txq} {k : EntryKey} {age : Nat} (h : q.NewSince k age) (set : StationSet) :
    (q.withoutStations set).NewSince k age := by
  refine ⟨h.1, fun x hx hxk => ?_⟩
  obtain ⟨e, he, hex⟩ := List.mem_filterMap.mp hx
  obtain ⟨hkey, hage⟩ := TxEntry.withoutStations_key_age hex
  rw [hage]
  exact h.2 e he (hkey ▸ hxk)

/-! ## Requests of the route engine and the turnout controller -/

/-- The keys requested by a block that acts on a change report or on the entry to ACTIVE (R114, R123, R125, R129, R175). -/
def EntryKey.ofReport : EntryKey → Bool
  | .claim | .release | .lie _ => true
  | .beacon | .lapse | .clear | .guard => false

/-- The second queue comes from the first by such requests alone. -/
inductive Txq.Asked (q : Txq) : Txq → Prop where
  | same : q.Asked q
  | ask {r : Txq} (h : q.Asked r) (key : EntryKey) (args : Args) (hkey : key.ofReport = true) : q.Asked (r.request key args)

/-- Keys that are not asked for find what they found. -/
theorem Txq.Asked.find_of_not {q r : Txq} (h : q.Asked r) (k : EntryKey) (hk : k.ofReport = false) :
    r.find k = q.find k := by
  induction h with
  | same => rfl
  | @ask r _ key args hkey ih => rw [r.find_request_of_ne key k args (by rintro rfl; simp [hk] at hkey), ih]

/-- R73: an entry that waits stays, joined by what was asked for. -/
theorem Txq.Asked.find_waiting {q r : Txq} (h : q.Asked r) (k : EntryKey) (e : TxEntry) (he : q.find k = some e)
    (hwait : e.flight = none) : ∃ more, r.find k = some { e with args := e.args.join more } := by
  induction h with
  | same => exact ⟨e.args, by rw [Args.join_self, he]⟩
  | @ask r _ key args _ ih =>
    obtain ⟨more, hmore⟩ := ih
    by_cases hne : key = k
    · subst hne
      obtain ⟨more', hmore'⟩ := r.find_request_of_waiting key args _ hmore hwait
      obtain ⟨d, hd⟩ := e.args.join_join more more'
      exact ⟨d, by rw [hmore', ← hd]⟩
    · exact ⟨more, by rw [r.find_request_of_ne key k args hne, hmore]⟩

/-- R72: what was asked for takes later ages. -/
theorem Txq.Asked.newSince {q r : Txq} (h : q.Asked r) (k : EntryKey) (age : Nat) (hq : q.NewSince k age) :
    r.NewSince k age := by
  induction h with
  | same => exact hq
  | ask _ key args _ ih => exact ih.request key args

/-! ### Shared requests -/

section Asked

variable {q : Txq} {s : State}

theorem Txq.Asked.txRequest (h : q.Asked s.txq) (key : EntryKey) (args : Args) (hkey : key.ofReport = true) :
    q.Asked (s.txRequest key args).txq := by
  rw [State.txRequest_txq]
  split
  · exact h.ask key args hkey
  · exact h

theorem Txq.Asked.requestRelease (h : q.Asked s.txq) (segs : List Seg) : q.Asked (s.requestRelease segs).txq :=
  h.txRequest .release _ rfl

/-- A fold asks when each of its steps does. -/
theorem Txq.Asked.foldl {β : Type} (f : State → β → State)
    (hf : ∀ (s : State) (b : β), q.Asked s.txq → q.Asked (f s b).txq) (l : List β) (h : q.Asked s.txq) :
    q.Asked (l.foldl f s).txq := by
  induction l generalizing s with
  | nil => exact h
  | cons b rest ih => exact ih (hf s b h)

/-! ### The route engine (R106 to R127) -/

theorem Txq.Asked.queueClaim (h : q.Asked s.txq) (front : PlanItem) (rest : List PlanItem) :
    q.Asked (s.queueClaim front rest).txq := h.txRequest .claim _ rfl

theorem Txq.Asked.plan (h : q.Asked s.txq) : q.Asked s.plan.txq := by
  have hdone : q.Asked (if s.placementDone then s.placementWon else s).txq := by
    split
    · simpa using h
    · exact h
  unfold State.plan
  dsimp only
  generalize (if s.placementDone = true then s.placementWon else s) = u at hdone ⊢
  split
  · split
    · exact hdone
    · exact hdone.queueClaim _ _
  · exact hdone

theorem Txq.Asked.settle (h : q.Asked s.txq) : q.Asked s.settle.txq := by
  simpa [State.settle] using h.plan

theorem Txq.Asked.placementLost (h : q.Asked s.txq) (cause : LossCause) : q.Asked (s.placementLost cause).txq := by
  simpa [State.placementLost] using h.requestRelease ((s.rte.holds.filter (·.held)).map (·.seg))

theorem Txq.Asked.claimWon (h : q.Asked s.txq) (o : Outstanding) : q.Asked (s.claimWon o).txq := by
  have hrelease : ∀ r segs, q.Asked ((s.setRte r).requestRelease segs).txq := fun r segs =>
    Txq.Asked.requestRelease (s := s.setRte r) h segs
  unfold State.claimWon
  dsimp only
  split
  · simpa using hrelease _ _
  · exact hrelease _ _

theorem Txq.Asked.claimLost (h : q.Asked s.txq) (o : Outstanding) (cause : LossCause) :
    q.Asked (s.claimLost o cause).txq := by
  unfold State.claimLost
  split
  · exact h
  · split
    · exact h.placementLost cause
    · simpa using h

theorem Txq.Asked.claimOutcome (h : q.Asked s.txq) (told : Option ClaimTold) (outcome : Option ClaimOutcome) :
    q.Asked (s.claimOutcome told outcome).txq := by
  have hover : q.Asked (s.setRte { s.rte with claim := none }).txq := h
  unfold State.claimOutcome
  split
  · exact hover
  · dsimp only
    split
    · exact hover.claimWon _
    · exact hover.claimLost _ _
    · exact hover
  · exact h

theorem Txq.Asked.routeReport (h : q.Asked s.txq) (r : Report) (told : Option ClaimTold) :
    q.Asked (s.routeReport r told).txq := by
  unfold State.routeReport
  dsimp only
  refine (Txq.Asked.claimOutcome ?_ told r.outcome).settle
  split
  · simpa using h
  · simpa using h

theorem Txq.Asked.routeReturn (h : q.Asked s.txq) : q.Asked s.routeReturn.txq := by
  unfold State.routeReturn
  refine Txq.Asked.settle ?_
  split
  · simpa using h
  · exact h

/-! ### The turnout controller (R166 to R178) -/

theorem Txq.Asked.requestLie (h : q.Asked s.txq) (seg : Seg) (cause : LieCause) (answer : Option Answer) :
    q.Asked (s.requestLie seg cause answer).txq := h.txRequest (.lie seg) _ rfl

theorem Txq.Asked.reportLie (h : q.Asked s.txq) (seg : Seg) (lie : Lie) (cause : LieCause) (answer : Option Answer) :
    q.Asked (s.reportLie seg lie cause answer).txq := Txq.Asked.requestLie (by simpa using h) seg cause answer

theorem Txq.Asked.stopThrow (h : q.Asked s.txq) (r : Record) (lie : Lie) (cause : LieCause) :
    q.Asked (s.stopThrow r lie cause).txq := Txq.Asked.reportLie (by simpa using h) r.seg lie cause r.answer

theorem Txq.Asked.startMotor (h : q.Asked s.txq) (r : Record) (target : Points) :
    q.Asked (s.startMotor r target).txq := by
  have hmove : ∀ m t, q.Asked (((s.modifyRecord r.seg m).setToc t).reportLie r.seg .moving .moving r.answer).txq :=
    fun m t => Txq.Asked.reportLie (by simpa using h) r.seg .moving .moving r.answer
  unfold State.startMotor
  dsimp only
  split
  · exact (hmove _ _).stopThrow _ _ _
  · exact hmove _ _

theorem Txq.Asked.startChecks (h : q.Asked s.txq) (segs : List Seg) : q.Asked (s.startChecks segs).txq := by
  induction segs generalizing s with
  | nil => exact h
  | cons seg rest ih =>
    have hleave : q.Asked (s.leaveQueue seg).txq := by simpa using h
    have hqueue : ∀ t, q.Asked (s.setToc t).txq := fun _ => h
    unfold State.startChecks
    split
    · split
      · split
        · exact ih (hleave.requestLie _ _ _)
        · split
          · exact (hqueue _).startMotor _ _
          · exact ih hleave
      · exact ih hleave
    · exact ih hleave

theorem Txq.Asked.joinQueue (h : q.Asked s.txq) (seg : Seg) (target : Points) (answer : Option Answer) :
    q.Asked (s.joinQueue seg target answer).txq := by
  have hjoin : ∀ m t, q.Asked ((s.modifyRecord seg m).setToc t).txq := fun m t => by simpa using h
  unfold State.joinQueue State.pump
  dsimp only
  split
  · exact hjoin _ _
  · exact (hjoin _ _).startChecks _

theorem Txq.Asked.wonTurnout (h : q.Asked s.txq) (seg : Seg) (required : Option Points) (answer : Answer) :
    q.Asked (s.wonTurnout seg required answer).txq := by
  unfold State.wonTurnout
  split
  · exact h.requestLie _ _ _
  · split
    · exact h.requestLie _ _ _
    · split
      · simpa using h
      · split
        · exact h.requestLie _ _ _
        · exact h.joinQueue _ _ _

theorem Txq.Asked.answerWins (h : q.Asked s.txq) (r : Report) : q.Asked (s.answerWins r).txq :=
  Txq.Asked.foldl _ (fun _ _ hs => hs.wonTurnout _ _ _) _ h

theorem Txq.Asked.reportLocked (h : q.Asked s.txq) (seg : Seg) : q.Asked (s.reportLocked seg).txq := by
  unfold State.reportLocked
  split
  · exact h.requestLie _ _ _
  · exact h

theorem Txq.Asked.possessionOutcome (h : q.Asked s.txq) (r : Report) (withdrawn : Bool) :
    q.Asked (s.possessionOutcome r withdrawn).txq := by
  have hover : ∀ t, q.Asked (s.setToc t).txq := fun _ => h
  unfold State.possessionOutcome
  dsimp only
  split
  · split
    · exact Txq.Asked.requestRelease (by simpa using h) _
    · simpa using h
  · split
    · exact hover _
    · simpa using h
  · exact hover _

theorem Txq.Asked.possessionTold (h : q.Asked s.txq) (r : Report) (told : Option ClaimTold) :
    q.Asked (s.possessionTold r told).txq := by
  unfold State.possessionTold
  split
  · exact h.possessionOutcome r _
  · exact h
  · exact h

theorem Txq.Asked.turnoutReport (h : q.Asked s.txq) (r : Report) (told : Option ClaimTold) :
    q.Asked (s.turnoutReport r told).txq := by
  have hends : q.Asked ((((s.possessionTold r told).answerWins r).dropQueued r).possessionEnds r).txq := by
    simpa using (h.possessionTold r told).answerWins r
  unfold State.turnoutReport
  dsimp only
  split
  · exact hends.foldl _ (fun _ _ hs => hs.reportLocked _) _
  · exact hends

theorem Txq.Asked.returnTurnout (h : q.Asked s.txq) (seg : Seg) : q.Asked (s.returnTurnout seg).txq := by
  unfold State.returnTurnout
  split
  · next holder required _ =>
    have hreport : ∀ answer, q.Asked (s.requestLie seg .report answer).txq := fun _ => h.requestLie _ _ _
    dsimp only
    split
    · unfold State.returnThrow
      split
      · simpa using hreport _
      · split
        · exact hreport _
        · exact (hreport _).joinQueue _ _ _
    · exact hreport _
  · exact h
  · exact h

theorem Txq.Asked.turnoutReturn (h : q.Asked s.txq) : q.Asked s.turnoutReturn.txq :=
  h.foldl _ (fun _ _ hs => hs.returnTurnout _) _

/-! ### A taken frame (R56, R93) -/

theorem Txq.Asked.applyFrame (h : q.Asked s.txq) (sender : Station) (content : Option Payload)
    (told : Option ClaimTold) : q.Asked (s.applyFrame sender content told).txq := by
  have hctu : ∀ t, q.Asked (s.setCtu t).txq := fun _ => h
  unfold State.applyFrame
  split
  · exact h
  · unfold State.handReport
    split
    · exact (hctu _).routeReport _ told
    · exact (hctu _).turnoutReport _ told
    · exact hctu _

theorem Txq.Asked.activate (h : q.Asked s.txq) : q.Asked s.activate.txq := by
  have hlease : q.Asked ((s.enter .active .announceTaken).startOwnLease).txq := by simpa using h
  unfold State.activate State.tellActive
  split
  · exact hlease.routeReturn
  · exact hlease.turnoutReturn
  · exact hlease

end Asked

end Sys2Proof.Machine
end

section
/-! A taken frame at a participant (R21, R22, R56, R57, R62, R77): the claim table, the line unit and the transmit queue after it. -/
namespace Sys2Proof.Machine

open Sys2Proof

/-- R56, R78: what a taken frame does to the queue after the outcome TAKEN: requests on the change report, stations withdrawn from the LAPSE entry,
and requests on the entry to ACTIVE. -/
def Txq.Followed (q r : Txq) : Prop := ∃ p set, q.Asked p ∧ (p.withoutStations set).Asked r

/-- A kind that nobody asks for finds what it found; the LAPSE entry apart. -/
theorem Txq.Followed.find_of_not {q r : Txq} (h : q.Followed r) (k : EntryKey) (hk : k.ofReport = false)
    (hlapse : k ≠ .lapse) : r.find k = q.find k := by
  obtain ⟨p, set, hqp, hpr⟩ := h
  rw [hpr.find_of_not k hk, p.find_withoutStations set k hlapse, hqp.find_of_not k hk]

/-- R73: an entry that waits stays, joined by what was asked for; the LAPSE entry apart. -/
theorem Txq.Followed.find_waiting {q r : Txq} (h : q.Followed r) (k : EntryKey) (e : TxEntry) (he : q.find k = some e)
    (hwait : e.flight = none) (hlapse : k ≠ .lapse) : ∃ more, r.find k = some { e with args := e.args.join more } := by
  obtain ⟨p, set, hqp, hpr⟩ := h
  obtain ⟨more, hmore⟩ := hqp.find_waiting k e he hwait
  rw [← p.find_withoutStations set k hlapse] at hmore
  obtain ⟨more', hmore'⟩ := hpr.find_waiting k _ hmore hwait
  obtain ⟨d, hd⟩ := e.args.join_join more more'
  exact ⟨d, by rw [hmore', ← hd]⟩

/-- R72: what was asked for takes later ages. -/
theorem Txq.Followed.newSince {q r : Txq} (h : q.Followed r) (k : EntryKey) (age : Nat) (hq : q.NewSince k age) :
    r.NewSince k age := by
  obtain ⟨p, set, hqp, hpr⟩ := h
  exact hpr.newSince k age ((hqp.newSince k age hq).withoutStations set)

/-- R77: an entry removed at TAKEN comes back as a new request alone. -/
theorem Txq.newSince_replace_none (q : Txq) (k : EntryKey) : (q.replace k none).NewSince k q.nextAge := by
  refine ⟨Nat.le_refl _, fun x hx hxk => ?_⟩
  rcases Txq.mem_replace hx with ⟨-, hne⟩ | hnone
  · exact absurd hxk hne
  · cases hnone

/-- R57, R59: the queue after the outcome TAKEN of the own frame. -/
theorem sendTaken_txq (s : State) (own : Bool) :
    (s.sendTaken own).1.txq = if own = true ∧ s.txq.flying.isSome = true then (s.txq.outcome .taken).1 else s.txq := by
  unfold State.sendTaken
  simp only [Bool.and_eq_true]
  split <;> rfl

/-- R59: the line unit after the outcome TAKEN of the own frame: the rejection count is 0. -/
theorem sendTaken_liu (s : State) (own : Bool) :
    (s.sendTaken own).1.liu =
      { s.liu with rejections := if own = true ∧ s.txq.flying.isSome = true then 0 else s.liu.rejections } := by
  unfold State.sendTaken
  simp only [Bool.and_eq_true]
  split <;> rfl

/-- R56: the queue after a taken frame, from the queue after the outcome. -/
theorem takenOnline_followed (s : State) (own : Bool) (r : Received) (tally : StationSet) :
    (s.sendTaken own).1.txq.Followed (s.takenOnline own r tally).txq := by
  have hreport := (Txq.Asked.same (q := (s.sendTaken own).1.txq)).applyFrame (frameStation r.frame) r.content
    (s.sendTaken own).2
  refine ⟨_, withdrawnStations tally (frameStation r.frame) (r.heard s.roster), hreport, ?_⟩
  generalize hq : ((s.sendTaken own).1.applyFrame _ _ _).txq.withoutStations _ = q
  have hlease : ∀ u : State, q.Asked u.txq → q.Asked (if u.isActive then u.startOwnLease else u).txq := by
    intro u hu
    split
    · simpa using hu
    · exact hu
  have hactive : ∀ u : State, q.Asked u.txq →
      q.Asked (if u.mbu.station = .announce ∧ ownAnnounce own r.content then u.activate else u).txq := by
    intro u hu
    split
    · exact hu.activate
    · exact hu
  unfold State.takenOnline
  refine hactive _ (hlease _ ?_)
  simp only [State.setTxq_txq, State.peersTaken_frame, hq]
  exact .same

/-- R77: the sent items of the entry in flight are removed; what was pending beside them waits as the entry. -/
theorem Txq.find_outcome_taken (q : Txq) (e : TxEntry) (f : Flight) (he : q.flying = some e) (hf : e.flight = some f) :
    (q.outcome .taken).1.find e.key =
      f.pending.map fun p => { e with args := p.args, age := p.age, flight := none } := by
  rw [q.outcome_taken e f he hf]
  cases f.pending with
  | none => exact q.find_replace_none e.key
  | some p => exact q.find_replace_self e.key _ rfl (Txq.find_isSome_of_flying he)

/-- R77: no other entry is changed by the outcome TAKEN. -/
theorem Txq.find_outcome_taken_of_ne (q : Txq) (k : EntryKey) (h : ∀ x, q.flying = some x → x.key ≠ k) :
    (q.outcome .taken).1.find k = q.find k := by
  cases he : q.flying with
  | none => simp [Txq.outcome, he]
  | some e =>
    cases hf : e.flight with
    | none => simp [Txq.outcome, he, hf]
    | some f =>
      rw [q.outcome_taken e f he hf]
      refine q.find_replace_of_ne e.key k _ (h e he) fun x hx => ?_
      obtain ⟨p, -, rfl⟩ := Option.map_eq_some_iff.mp hx
      rfl

/-- Settles O20: `taken_online` gives the next state, whose queue follows (`takenOnline_followed`) the outcome TAKEN. -/
theorem takenFramesChangeTheTable : Obligations.TakenFramesChangeTheTable := by
  intro s l r p slots hr honline hphase hline hrec hcontent hveto hquorum hme
  refine ⟨_, taken_online s l r p slots hr honline hphase hline hrec hcontent hveto hquorum hme, ?_, ?_, ?_, ?_⟩
  · simpa using takenOnline_ctu (s.seekIdle 0) l.own.isSome r p (slots &&& s.roster) hcontent
  · rw [takenOnline_liu, sendTaken_liu]; rfl
  all_goals
    have hfollow := takenOnline_followed (s.seekIdle 0) l.own.isSome r (slots &&& s.roster)
    rw [sendTaken_txq, show (s.seekIdle 0).txq = s.txq from rfl] at hfollow
  · intro e f hown he hf
    rw [if_pos ⟨hown, by simp [he]⟩] at hfollow
    have hfind := s.txq.find_outcome_taken e f he hf
    refine ⟨s.txq.outcome_taken e f he hf, fun hpending x hx => ?_, fun q hq hlapse => ?_, fun hkey => ?_⟩
    · rw [s.txq.outcome_taken e f he hf, hpending] at hfollow
      have hnew := hfollow.newSince e.key s.txq.nextAge (s.txq.newSince_replace_none e.key)
      exact hnew.2 x (Txq.mem_of_find hx) (find_some_key hx)
    · rw [hq] at hfind
      exact hfollow.find_waiting e.key _ hfind rfl hlapse
    · rw [← hfind]
      rcases hkey with hk | hk | hk <;> exact hfollow.find_of_not e.key (by rw [hk]; rfl) (by rw [hk]; decide)
  · intro key e he hwait hlapse hother
    refine hfollow.find_waiting key e ?_ hwait hlapse
    split
    · rw [s.txq.find_outcome_taken_of_ne key hother, he]
    · exact he

end Sys2Proof.Machine
end

section
/-! The parts of the laws that every step keeps (R39, R72, R73, R191): the bounds of the notice queue, the keys and the argument sets of the transmit queue,
under each operation on one block. -/
namespace Sys2Proof.Machine

open Sys2Proof

/-! ## The notice queue (R191) -/

/-- R191: at most 16 notices wait, and the overflow count is a byte. -/
def Dpt.Bounded (d : Dpt) : Prop := d.notices.length ≤ 16 ∧ d.overflow ≤ 255

theorem noticeLaw_iff (s : State) : NoticeLaw s ↔ s.dpt.Bounded := Iff.rfl

theorem Dpt.Bounded.post {d : Dpt} (h : d.Bounded) (n : Notice) : (d.post n).Bounded := by
  obtain ⟨hlength, hover⟩ := h
  unfold Dpt.post
  split
  · next hroom => exact ⟨by simpa [Config.noticeMax] using hroom, hover⟩
  · exact ⟨hlength, Nat.min_le_right _ _⟩

/-! ## Argument sets of their entry's kind (R72, R73) -/

/-- R72, R73: what an entry has sent or will send, and what waits beside it, are of its kind. -/
def TxEntry.Fitting (e : TxEntry) : Prop :=
  fitsKey e.key e.args = true ∧ ∀ f p, e.flight = some f → f.pending = some p → fitsKey e.key p.args = true

/-- R72, R73: so it is with every entry. -/
def Txq.Fitting (q : Txq) : Prop := ∀ e ∈ q.entries, e.Fitting

theorem argsLaw_iff (s : State) : ArgsLaw s ↔ s.txq.Fitting := Iff.rfl

/-- R73: whether an argument set fits goes by its kind, not by its members. -/
theorem fitsKey_segs (key : EntryKey) (a b : SegSet) : fitsKey key (.segs a) = fitsKey key (.segs b) := by
  cases key <;> rfl

theorem fitsKey_stations (key : EntryKey) (a b : StationSet) :
    fitsKey key (.stations a) = fitsKey key (.stations b) := by cases key <;> rfl

theorem fitsKey_lie (key : EntryKey) (c d : LieCause) (a b : Option Answer) :
    fitsKey key (.lie c a) = fitsKey key (.lie d b) := by cases key <;> rfl

/-- R73: a joined argument set is of the kind it was. -/
theorem fitsKey_join (key : EntryKey) (a b : Args) : fitsKey key (a.join b) = fitsKey key a := by
  unfold Args.join
  split
  · exact fitsKey_segs key _ _
  · exact fitsKey_stations key _ _
  · exact fitsKey_lie key _ _ _ _
  · rfl

/-- R74: what is added beside the sent items is of the kind requested. -/
theorem fitsKey_beyond (key : EntryKey) (a b : Args) : fitsKey key (a.beyond b) = fitsKey key b := by
  unfold Args.beyond
  split
  · exact fitsKey_segs key _ _
  · exact fitsKey_stations key _ _
  · rfl

/-- R78: stations withdrawn leave an argument set of the kind it was. -/
theorem fitsKey_without (key : EntryKey) (a : Args) (set : StationSet) : fitsKey key (a.without set) = fitsKey key a := by
  unfold Args.without
  split
  · exact fitsKey_stations key _ _
  · rfl

/-- R76: one frame's part of an argument set is of the kind it was. -/
theorem fitsKey_sentArgs {key : EntryKey} {a : Args} (h : fitsKey key a = true) : fitsKey key (sentArgs key a) = true := by
  unfold sentArgs
  split
  · rfl
  · rfl
  · exact h

/-- R76: so is what one frame leaves of it. -/
theorem TxEntry.Fitting.leftOver {e : TxEntry} (h : e.Fitting) (p : Pending) (hp : leftOver e = some p) :
    fitsKey e.key p.args = true := by
  obtain ⟨hargs, -⟩ := h
  unfold Machine.leftOver at hp
  split at hp
  · next all _ hall _ =>
    rw [hall] at hargs
    split at hp
    · cases hp
    · cases hp
      cases hkey : e.key <;> rw [hkey] at hargs <;> exact hargs
  · cases hp

theorem TxEntry.Fitting.launch {e : TxEntry} (h : e.Fitting) : e.launch.Fitting := by
  refine ⟨fitsKey_sentArgs h.1, fun f p hf hp => ?_⟩
  cases hf
  exact h.leftOver p hp

/-- R77: an entry given back is of its kind. -/
theorem TxEntry.Fitting.mergedBack {e : TxEntry} (h : e.Fitting) (f : Flight) : (e.mergedBack f).Fitting := by
  unfold TxEntry.mergedBack
  split
  · exact ⟨(fitsKey_join _ _ _).trans h.1, fun _ _ hnone => nomatch hnone⟩
  · exact ⟨h.1, fun _ _ hnone => nomatch hnone⟩

/-- R77: so is what waited beside items that were taken. -/
theorem TxEntry.Fitting.afterTaken {e x : TxEntry} {f : Flight} (h : e.Fitting) (hf : e.flight = some f)
    (hx : e.afterTaken f = some x) : x.Fitting := by
  obtain ⟨p, hp, rfl⟩ := Option.map_eq_some_iff.mp hx
  exact ⟨h.2 f p hf hp, fun _ _ hnone => nomatch hnone⟩

/-- R78: so is what is left of a LAPSE entry. -/
theorem TxEntry.Fitting.withoutStations {e x : TxEntry} (h : e.Fitting) {set : StationSet}
    (hx : e.withoutStations set = some x) : x.Fitting := by
  obtain ⟨hargs, hpending⟩ := h
  unfold TxEntry.withoutStations at hx
  split at hx
  · split at hx
    · next hflight =>
      split at hx
      · cases hx
      · cases hx
        exact ⟨(fitsKey_without _ _ set).trans hargs, hpending⟩
    · next f hflight =>
      cases hx
      refine ⟨hargs, fun g p hg hp => ?_⟩
      cases hg
      obtain ⟨q, hq, rfl⟩ := Option.map_eq_some_iff.mp (Option.filter_eq_some_iff.mp hp).1
      exact (fitsKey_without _ _ set).trans (hpending f q hflight hq)
  · cases hx
    exact ⟨hargs, hpending⟩

theorem Txq.Fitting.replace {q : Txq} (h : q.Fitting) (key : EntryKey) (e : Option TxEntry)
    (he : ∀ x, e = some x → x.Fitting) : (q.replace key e).Fitting := fun x hx =>
  (Txq.mem_replace hx).elim (fun hold => h x hold.1) (he x)

/-- R57: the entry in flight is a member. -/
theorem Txq.mem_of_flying {q : Txq} {e : TxEntry} (h : q.flying = some e) : e ∈ q.entries := List.mem_of_find?_eq_some h

theorem Txq.Fitting.addPending {q : Txq} (h : q.Fitting) (e : TxEntry) (f : Flight) (args : Args) (he : e.Fitting)
    (hf : e.flight = some f) (hargs : fitsKey e.key args = true) : (q.addPending e f args).Fitting := by
  have hadd : ∀ a age, fitsKey e.key a = true →
      (q.replace e.key (some { e with flight := some { f with pending := some { args := a, age := age } } })).Fitting :=
    fun a age ha => h.replace _ _ fun x hx => by
      cases hx
      refine ⟨he.1, fun g p hg hp => ?_⟩
      cases hg
      cases hp
      exact ha
  unfold Txq.addPending
  split
  · exact h
  · split
    · next p hp => exact hadd _ _ ((fitsKey_join _ _ _).trans (he.2 f p hf hp))
    · exact hadd _ _ ((fitsKey_beyond _ _ _).trans hargs)

/-- R73, R74: a request of a kind's own argument set keeps every argument set of its entry's kind. -/
theorem Txq.Fitting.request {q : Txq} (h : q.Fitting) (key : EntryKey) (args : Args) (hargs : fitsKey key args = true) :
    (q.request key args).Fitting := by
  unfold Txq.request
  split
  · exact h
  · split
    · intro x hx
      rcases List.mem_append.mp hx with hold | hnew
      · exact h x hold
      · cases List.mem_singleton.mp hnew
        exact ⟨hargs, fun _ _ hnone => nomatch hnone⟩
    · next e he =>
      have hfit : e.Fitting := h e (Txq.mem_of_find he)
      split
      · exact h
      · split
        · exact h.replace _ _ fun x hx => by
            cases hx
            exact ⟨(fitsKey_join _ _ _).trans hfit.1, hfit.2⟩
        · next f hf => exact h.addPending e f args hfit hf ((find_some_key he).symm ▸ hargs)

/-- R79: a withdrawn claim keeps them. -/
theorem Txq.Fitting.withdraw {q : Txq} (h : q.Fitting) : q.withdraw.1.Fitting := by
  unfold Txq.withdraw
  split
  · exact h
  · next e he =>
    have hfit : e.Fitting := h e (Txq.mem_of_find he)
    split
    · exact h.replace _ _ fun x hx => nomatch hx
    · next f hf =>
      exact h.replace _ _ fun x hx => by
        cases hx
        refine ⟨hfit.1, fun g p hg hp => ?_⟩
        cases hg
        exact hfit.2 f p hf hp

/-- R77: so does every outcome. -/
theorem Txq.Fitting.outcome {q : Txq} (h : q.Fitting) (o : SendOutcome) : (q.outcome o).1.Fitting := by
  unfold Txq.outcome
  split
  · exact h
  · next e he =>
    have hfit : e.Fitting := h e (Txq.mem_of_flying he)
    split
    · exact h
    · next f hf =>
      split
      · exact h.replace _ _ fun x hx => hfit.afterTaken hf hx
      all_goals
        split
        · exact h.replace _ _ fun x hx => nomatch hx
        · exact h.replace _ _ fun x hx => by
            cases hx
            exact hfit.mergedBack f

theorem Txq.Fitting.withoutStations {q : Txq} (h : q.Fitting) (set : StationSet) : (q.withoutStations set).Fitting := by
  intro x hx
  obtain ⟨e, he, hex⟩ := List.mem_filterMap.mp hx
  exact (h e he).withoutStations hex

/-! ## The keys of the queue (R72) -/

/-- R72: the keys of the entries, in queue order. -/
def Txq.keys (q : Txq) : List EntryKey := q.entries.map (·.key)

/-- Entries changed in place or removed leave some of the keys. -/
theorem keys_filterMap_sublist (entries : List TxEntry) (f : TxEntry → Option TxEntry)
    (h : ∀ e x, f e = some x → x.key = e.key) : ((entries.filterMap f).map (·.key)).Sublist (entries.map (·.key)) := by
  induction entries with
  | nil => exact .slnil
  | cons e rest ih =>
    cases he : f e with
    | none => simpa [he] using ih.cons e.key
    | some x => simpa [he, h e x he] using ih.cons_cons e.key

theorem Txq.keys_replace_sublist (q : Txq) (key : EntryKey) (e : Option TxEntry) (he : ∀ x, e = some x → x.key = key) :
    (q.replace key e).keys.Sublist q.keys := by
  refine keys_filterMap_sublist q.entries _ fun x y hxy => ?_
  split at hxy
  · next hkey => rw [he y hxy, hkey]
  · cases hxy; rfl

theorem Txq.keys_withoutStations_sublist (q : Txq) (set : StationSet) : (q.withoutStations set).keys.Sublist q.keys :=
  keys_filterMap_sublist q.entries _ fun _ _ h => (TxEntry.withoutStations_key_age h).1

theorem Txq.keys_withdraw_sublist (q : Txq) : q.withdraw.1.keys.Sublist q.keys := by
  unfold Txq.withdraw
  split
  · exact List.Sublist.refl _
  · next e he =>
    split
    · exact q.keys_replace_sublist _ _ fun x hx => nomatch hx
    · exact q.keys_replace_sublist _ _ fun x hx => by cases hx; exact find_some_key (e := e) he

theorem Txq.keys_outcome_sublist (q : Txq) (o : SendOutcome) : (q.outcome o).1.keys.Sublist q.keys := by
  have hback : ∀ (e : TxEntry) (f : Flight), (e.mergedBack f).key = e.key := fun e f => by
    unfold TxEntry.mergedBack; split <;> rfl
  unfold Txq.outcome
  split
  · exact List.Sublist.refl _
  · next e he =>
    split
    · exact List.Sublist.refl _
    · next f hf =>
      split
      · refine q.keys_replace_sublist _ _ fun x hx => ?_
        obtain ⟨p, -, rfl⟩ := Option.map_eq_some_iff.mp hx
        rfl
      all_goals
        split
        · exact q.keys_replace_sublist _ _ fun x hx => nomatch hx
        · exact q.keys_replace_sublist _ _ fun x hx => by cases hx; exact hback e f

/-- R72: a request adds no second entry of a key. -/
theorem Txq.nodup_keys_request (q : Txq) (key : EntryKey) (args : Args) (h : q.keys.Nodup) : (q.request key args).keys.Nodup := by
  rcases request_keys q key args with hsame | ⟨hnew, hnone⟩
  · rwa [Txq.keys, hsame]
  · have hnot : key ∉ q.keys := fun hmem => by simpa [hnone] using (Txq.find_isSome q key).mpr hmem
    rw [hnew, Txq.keys, create_keys]
    exact List.nodup_append.mpr ⟨h, by simp, fun a ha b hb hab => hnot (by simp_all [Txq.keys])⟩

end Sys2Proof.Machine
end

section
/-! One relation between two states: the second keeps the laws of notices, participation, keys and argument sets where the first has them. The operations of
the route engine, the position tracker and the turnout controller extend it. -/
namespace Sys2Proof.Machine

open Sys2Proof

/-! ## The four laws kept from one state to another -/

/-- R39, R72, R73, R191: what the second state needs of the four laws, it has where the first has it. -/
structure KeepsLaws (s t : State) : Prop where
  notices : NoticeLaw s → NoticeLaw t
  trackline : TracklineLaw s → TracklineLaw t
  queue : QueueLaw s → QueueLaw t
  args : ArgsLaw s → ArgsLaw t

/-- What the four laws read of a state is the same in both. -/
def SameForLaws (s t : State) : Prop :=
  t.dpt = s.dpt ∧ t.liu.line = s.liu.line ∧ t.txq = s.txq ∧ t.mbu.station = s.mbu.station

namespace KeepsLaws

theorem refl (s : State) : KeepsLaws s s := ⟨id, id, id, id⟩

theorem trans {s u t : State} (h : KeepsLaws s u) (k : KeepsLaws u t) : KeepsLaws s t :=
  ⟨k.notices ∘ h.notices, k.trackline ∘ h.trackline, k.queue ∘ h.queue, k.args ∘ h.args⟩

variable {s u t : State}

/-! ### Single blocks -/

theorem same (h : KeepsLaws s u) (hsame : SameForLaws u t) : KeepsLaws s t := by
  obtain ⟨hdpt, hline, htxq, hstation⟩ := hsame
  have honline : t.online = u.online := (State.of_station hstation).1
  refine h.trans ⟨fun hu => ?_, fun hu => ?_, fun hu => ?_, fun hu => ?_⟩
  · rwa [NoticeLaw, hdpt]
  · rwa [TracklineLaw, hline, honline]
  · rwa [QueueLaw, htxq, honline]
  · rwa [ArgsLaw, htxq]

/-- The drive port changed. -/
theorem setDpt (h : KeepsLaws s u) (d : Dpt) (hd : u.dpt.Bounded → d.Bounded) : KeepsLaws s (u.setDpt d) :=
  h.trans ⟨hd, id, id, id⟩

theorem post (h : KeepsLaws s u) (n : Notice) : KeepsLaws s (u.post n) := h.setDpt _ fun hd => hd.post n

theorem postIf (h : KeepsLaws s u) (b : Bool) (n : Notice) : KeepsLaws s (u.postIf b n) := by
  unfold State.postIf
  split
  · exact h.post n
  · exact h

/-- R72: the transmit queue changed, with no new key. -/
theorem setTxq (h : KeepsLaws s u) (q : Txq) (hkeys : q.keys.Sublist u.txq.keys) (hfit : u.txq.Fitting → q.Fitting) :
    KeepsLaws s (u.setTxq q) := by
  refine h.trans ⟨id, id, fun hu => ⟨hkeys.nodup hu.1, fun hoff => ?_⟩, hfit⟩
  have hnil : u.txq.keys = [] := by simp [Txq.keys, hu.2 hoff]
  rw [hnil, List.sublist_nil] at hkeys
  exact List.map_eq_nil_iff.mp hkeys

/-- R72 to R74: a request, which the queue takes only in ANNOUNCE and ACTIVE. -/
theorem txRequest (h : KeepsLaws s u) (key : EntryKey) (args : Args) (hfit : fitsKey key args = true) :
    KeepsLaws s (u.txRequest key args) := by
  unfold State.txRequest
  split
  · next haccepts =>
    have honline : u.online = true := (Bool.and_eq_true_iff.mp haccepts).1
    refine h.trans ⟨id, id, fun hu => ⟨u.txq.nodup_keys_request key args hu.1, fun hoff => ?_⟩, fun hu => ?_⟩
    · exact nomatch honline.symm.trans hoff
    · exact Txq.Fitting.request hu key args hfit
  · exact h

theorem requestRelease (h : KeepsLaws s u) (segs : List Seg) : KeepsLaws s (u.requestRelease segs) :=
  h.txRequest .release _ rfl

/-- R79: a claim withdrawn. -/
theorem withdraw (h : KeepsLaws s u) : KeepsLaws s (u.setTxq u.txq.withdraw.1) :=
  h.setTxq _ u.txq.keys_withdraw_sublist Txq.Fitting.withdraw

/-- R77: an outcome at the transmit queue. -/
theorem outcome (h : KeepsLaws s u) (o : SendOutcome) : KeepsLaws s (u.setTxq (u.txq.outcome o).1) :=
  h.setTxq _ (u.txq.keys_outcome_sublist o) fun hu => hu.outcome o

/-- R39: the line unit changed, with no frame participated in anew outside ANNOUNCE and ACTIVE. -/
theorem setLiu (h : KeepsLaws s u) (l : Liu)
    (hl : ∀ f, l.line = some f → f.participating = true →
      u.online = true ∨ ∃ g, u.liu.line = some g ∧ g.participating = true) : KeepsLaws s (u.setLiu l) :=
  h.trans ⟨id, fun hu f hf hp => (hl f hf hp).elim id fun ⟨g, hg, hgp⟩ => hu g hg hgp, id, id⟩

/-- R39, R72: the station leaves the line, its queue emptied and the frame on the line no longer its own to drive. -/
theorem leaveLine (h : KeepsLaws s u) (hdpt : u.dpt.Bounded → t.dpt.Bounded)
    (hline : ∀ f, t.liu.line = some f → f.participating = false) (htxq : t.txq.entries = []) : KeepsLaws s t := by
  refine h.trans ⟨hdpt, fun _ f hf hp => ?_, fun _ => ?_, fun _ e he => ?_⟩
  · exact absurd hp (by simp [hline f hf])
  · simp [QueueLaw, htxq]
  · rw [htxq] at he
    cases he

/-- R39, R72: the station state changed, to ANNOUNCE or ACTIVE or from outside both. -/
theorem setMbu (h : KeepsLaws s u) (m : Mbu)
    (hm : (u.setMbu m).online = true ∨ u.online = false ∨ m.station = u.mbu.station) : KeepsLaws s (u.setMbu m) := by
  rcases hm with hon | hoff | hsame
  · exact h.trans ⟨id, fun _ _ _ _ => hon, fun hu => ⟨hu.1, fun hoff => absurd hon (by simpa using hoff)⟩, id⟩
  · exact h.trans ⟨id, fun hu f hf hp => absurd (hu f hf hp) (by simp [hoff]), fun hu => ⟨hu.1, fun _ => hu.2 hoff⟩, id⟩
  · exact h.same ⟨rfl, rfl, rfl, hsame⟩

/-- R82: a change of station state of this kind, with its LINK notice. -/
theorem enter (h : KeepsLaws s u) (state : StationState) (cause : ChangeCause)
    (hm : (state = .announce ∨ state = .active) ∨ u.online = false) : KeepsLaws s (u.enter state cause) := by
  refine (h.setMbu _ ?_).post _
  rcases hm with (rfl | rfl) | hoff
  · exact Or.inl rfl
  · exact Or.inl rfl
  · exact Or.inr (Or.inl hoff)

/-- A fold keeps the laws when each of its steps does. -/
theorem foldl {β : Type} (f : State → β → State) (hf : ∀ (u : State) (b : β), KeepsLaws s u → KeepsLaws s (f u b))
    (l : List β) (h : KeepsLaws s u) : KeepsLaws s (l.foldl f u) := by
  induction l generalizing u with
  | nil => exact h
  | cons b rest ih => exact ih (hf u b h)

/-! ### The route engine (chapter 6) -/

theorem setEngine (h : KeepsLaws s u) (state : RteState) : KeepsLaws s (u.setEngine state) :=
  h.same (by simp [SameForLaws])

theorem setRte (h : KeepsLaws s u) (r : Rte) : KeepsLaws s (u.setRte r) := h.same ⟨rfl, rfl, rfl, rfl⟩

theorem setPos (h : KeepsLaws s u) (p : Pos) : KeepsLaws s (u.setPos p) := h.same ⟨rfl, rfl, rfl, rfl⟩

theorem setMou (h : KeepsLaws s u) (m : Mou) : KeepsLaws s (u.setMou m) := h.same ⟨rfl, rfl, rfl, rfl⟩

theorem setToc (h : KeepsLaws s u) (c : Toc) : KeepsLaws s (u.setToc c) := h.same ⟨rfl, rfl, rfl, rfl⟩

theorem setCtu (h : KeepsLaws s u) (c : Table) : KeepsLaws s (u.setCtu c) := h.same ⟨rfl, rfl, rfl, rfl⟩

theorem assertStop (h : KeepsLaws s u) (cause : StopCause) : KeepsLaws s (u.assertStop cause) := h.setMou _

theorem refreshDuty (h : KeepsLaws s u) : KeepsLaws s u.refreshDuty := h.setMou _

theorem halt (h : KeepsLaws s u) (cause : StopCause) : KeepsLaws s (u.halt cause) := by
  unfold State.halt
  split
  · exact ((h.setEngine _).setRte _).post _
  · exact h

theorem refreshOffer (h : KeepsLaws s u) : KeepsLaws s u.refreshOffer := by
  unfold State.refreshOffer
  split
  · exact h.setRte _
  · split
    · exact h
    · exact (h.setRte _).post _

theorem refresh (h : KeepsLaws s u) : KeepsLaws s u.refresh := h.refreshOffer.refreshDuty

theorem clearRoute (h : KeepsLaws s u) : KeepsLaws s u.clearRoute := h.setRte _

theorem withdrawClaim (h : KeepsLaws s u) : KeepsLaws s u.withdrawClaim := by
  unfold State.withdrawClaim
  split
  · exact h
  · exact h.withdraw.setRte _

theorem queueClaim (h : KeepsLaws s u) (front : PlanItem) (rest : List PlanItem) : KeepsLaws s (u.queueClaim front rest) :=
  (h.txRequest .claim _ rfl).setRte _

theorem placementWon (h : KeepsLaws s u) : KeepsLaws s u.placementWon := ((h.setEngine _).setRte _).postIf _ _

theorem plan (h : KeepsLaws s u) : KeepsLaws s u.plan := by
  have hdone : KeepsLaws s (if u.placementDone then u.placementWon else u) := by
    split
    · exact h.placementWon
    · exact h
  unfold State.plan
  dsimp only
  generalize (if u.placementDone = true then u.placementWon else u) = v at hdone ⊢
  split
  · split
    · exact hdone
    · exact hdone.queueClaim _ _
  · exact hdone

theorem settle (h : KeepsLaws s u) : KeepsLaws s u.settle := h.plan.refresh

theorem loseCommitted (h : KeepsLaws s u) (before : List Step) : KeepsLaws s (u.loseCommitted before) := by
  unfold State.loseCommitted
  split
  · exact h
  · exact ((h.post _).assertStop _).halt _

theorem placementLost (h : KeepsLaws s u) (cause : LossCause) : KeepsLaws s (u.placementLost cause) :=
  ((((h.requestRelease _).setEngine _).setPos _).setRte _).postIf _ _

theorem countLoss (h : KeepsLaws s u) (o : Outstanding) (cause : LossCause) : KeepsLaws s (u.countLoss o cause) :=
  (h.setRte _).postIf _ _

theorem claimWon (h : KeepsLaws s u) (o : Outstanding) : KeepsLaws s (u.claimWon o) := by
  unfold State.claimWon
  dsimp only
  split
  · exact ((h.setRte _).requestRelease _).placementWon
  · exact (h.setRte _).requestRelease _

theorem claimLost (h : KeepsLaws s u) (o : Outstanding) (cause : LossCause) : KeepsLaws s (u.claimLost o cause) := by
  unfold State.claimLost
  split
  · exact h
  · split
    · exact h.placementLost cause
    · exact h.countLoss o cause

theorem claimOutcome (h : KeepsLaws s u) (told : Option ClaimTold) (outcome : Option ClaimOutcome) :
    KeepsLaws s (u.claimOutcome told outcome) := by
  unfold State.claimOutcome
  split
  · exact h.setRte _
  · dsimp only
    split
    · exact (h.setRte _).claimWon _
    · exact (h.setRte _).claimLost _ _
    · exact h.setRte _
  · exact h

theorem routeReport (h : KeepsLaws s u) (r : Report) (told : Option ClaimTold) : KeepsLaws s (u.routeReport r told) := by
  unfold State.routeReport
  dsimp only
  refine (claimOutcome ?_ told r.outcome).settle
  split
  · exact ((h.setRte _).loseCommitted _).post _
  · exact (h.setRte _).loseCommitted _

theorem routeTold (h : KeepsLaws s u) (told : Option ClaimTold) : KeepsLaws s (u.routeTold told) := by
  unfold State.routeTold
  split
  · exact (h.claimOutcome told none).settle
  · exact h

theorem routeRelisten (h : KeepsLaws s u) : KeepsLaws s u.routeRelisten := by
  unfold State.routeRelisten
  dsimp only
  split
  · exact ((h.setRte _).assertStop _).halt _
  · exact (h.setRte _).setEngine _
  all_goals exact h.setRte _

theorem routeReturn (h : KeepsLaws s u) : KeepsLaws s u.routeReturn := by
  unfold State.routeReturn
  refine settle ?_
  split
  · exact h.setEngine _
  · exact h

theorem routeFreeze (h : KeepsLaws s u) : KeepsLaws s u.routeFreeze :=
  (((h.assertStop _).halt _).setRte _).setMou _

/-! ### The position tracker (chapter 8) -/

theorem raiseFault (h : KeepsLaws s u) (f : PosFault) : KeepsLaws s (u.raiseFault f) :=
  ((((h.setPos _).post _).assertStop _).halt _).refresh

theorem dropTailStep (h : KeepsLaws s u) : KeepsLaws s u.dropTailStep := by
  unfold State.dropTailStep
  split
  · dsimp only
    split
    · exact (h.setRte _).requestRelease _
    · exact h.setRte _
  · exact (h.setRte _).requestRelease _

theorem releaseTail (h : KeepsLaws s u) : KeepsLaws s u.releaseTail := (h.dropTailStep.setPos _).settle

theorem creepCount (h : KeepsLaws s u) : KeepsLaws s u.creepCount := by
  unfold State.creepCount
  split
  · exact h
  · dsimp only
    split
    · exact (h.setPos _).raiseFault _
    · exact h.setPos _

theorem countTests (h : KeepsLaws s u) : KeepsLaws s u.countTests := by
  unfold State.countTests
  split
  · exact h
  · split
    · exact h.raiseFault _
    · split
      · exact h.refreshDuty
      · exact h.creepCount

theorem count (h : KeepsLaws s u) : KeepsLaws s u.count := by
  unfold State.count
  split
  · exact h
  · dsimp only
    split
    · exact h.setPos _
    · split
      · exact (h.setPos _).releaseTail.countTests
      · exact (h.setPos _).countTests

theorem odometerRise (h : KeepsLaws s u) : KeepsLaws s u.odometerRise := by
  unfold State.odometerRise
  split
  · exact (h.setPos _).count
  · exact h

theorem advance (h : KeepsLaws s u) (next : Step) : KeepsLaws s (u.advance next) := by
  have htail : KeepsLaws s (if u.tail.isSome then u.releaseTail else u) := by
    split
    · exact h.releaseTail
    · exact h
  exact (htail.setPos _).settle.postIf _ _

theorem goodTag (h : KeepsLaws s u) (p : Placement) (tag : Seg × Seg) : KeepsLaws s (u.goodTag p tag) := by
  unfold State.goodTag
  dsimp only
  split
  · exact h
  · split
    · split
      · split
        · exact h.advance _
        · exact h.raiseFault _
      · exact h.raiseFault _
    · exact h.raiseFault _

theorem tagRead (h : KeepsLaws s u) (start : Bool) (bits : BitVec 16) (stop : Bool) :
    KeepsLaws s (u.tagRead start bits stop) := by
  unfold State.tagRead
  split
  · exact h
  · split
    · exact (h.setPos _).post _
    · split
      · split
        · exact h
        · exact h.goodTag _ _
      · exact h

/-! ### The turnout controller (chapter 9) -/

theorem requestLie (h : KeepsLaws s u) (seg : Seg) (cause : LieCause) (answer : Option Answer) :
    KeepsLaws s (u.requestLie seg cause answer) := h.txRequest (.lie seg) _ rfl

theorem modifyRecord (h : KeepsLaws s u) (seg : Seg) (f : Record → Record) : KeepsLaws s (u.modifyRecord seg f) := h.setToc _

theorem reportLie (h : KeepsLaws s u) (seg : Seg) (lie : Lie) (cause : LieCause) (answer : Option Answer) :
    KeepsLaws s (u.reportLie seg lie cause answer) := ((h.modifyRecord seg _).post _).requestLie seg cause answer

theorem stopThrow (h : KeepsLaws s u) (r : Record) (lie : Lie) (cause : LieCause) : KeepsLaws s (u.stopThrow r lie cause) :=
  (h.modifyRecord _ _).reportLie _ _ _ _

theorem startMotor (h : KeepsLaws s u) (r : Record) (target : Points) : KeepsLaws s (u.startMotor r target) := by
  unfold State.startMotor
  dsimp only
  split
  · exact (((h.modifyRecord _ _).setToc _).reportLie _ _ _ _).stopThrow _ _ _
  · exact ((h.modifyRecord _ _).setToc _).reportLie _ _ _ _

theorem leaveQueue (h : KeepsLaws s u) (seg : Seg) : KeepsLaws s (u.leaveQueue seg) := (h.modifyRecord _ _).setToc _

theorem startChecks (h : KeepsLaws s u) (segs : List Seg) : KeepsLaws s (u.startChecks segs) := by
  induction segs generalizing u with
  | nil => exact h
  | cons seg rest ih =>
    unfold State.startChecks
    split
    · split
      · split
        · exact ih ((h.leaveQueue seg).requestLie _ _ _)
        · split
          · exact (h.setToc _).startMotor _ _
          · exact ih (h.leaveQueue seg)
      · exact ih (h.leaveQueue seg)
    · exact ih (h.leaveQueue seg)

theorem pump (h : KeepsLaws s u) : KeepsLaws s u.pump := by
  unfold State.pump
  split
  · exact h
  · exact h.startChecks _

theorem joinQueue (h : KeepsLaws s u) (seg : Seg) (target : Points) (answer : Option Answer) :
    KeepsLaws s (u.joinQueue seg target answer) := ((h.modifyRecord _ _).setToc _).pump

theorem wonTurnout (h : KeepsLaws s u) (seg : Seg) (required : Option Points) (answer : Answer) :
    KeepsLaws s (u.wonTurnout seg required answer) := by
  unfold State.wonTurnout
  split
  · exact h.requestLie _ _ _
  · split
    · exact h.requestLie _ _ _
    · split
      · exact h.modifyRecord _ _
      · split
        · exact h.requestLie _ _ _
        · exact h.joinQueue _ _ _

theorem endThrow (h : KeepsLaws s u) (r : Record) (lie : Lie) (cause : LieCause) : KeepsLaws s (u.endThrow r lie cause) := by
  unfold State.endThrow
  dsimp only
  split
  · exact h.stopThrow r lie cause
  · split
    · exact ((h.stopThrow r lie cause).modifyRecord _ _).wonTurnout _ _ _
    · exact (h.stopThrow r lie cause).modifyRecord _ _

theorem testLocked (h : KeepsLaws s u) (r : Record) (p : Points) : KeepsLaws s (u.testLocked r p) := by
  unfold State.testLocked
  split
  · exact h.reportLie _ _ _ _
  · split
    · exact h.reportLie _ _ _ _
    · exact h

theorem testLost (h : KeepsLaws s u) (r : Record) : KeepsLaws s (u.testLost r) := by
  unfold State.testLost
  split
  · exact h.reportLie _ _ _ _
  · exact h.reportLie _ _ _ _
  · exact h

theorem testDetectors (h : KeepsLaws s u) (r : Record) : KeepsLaws s (u.testDetectors r) := by
  unfold State.testDetectors
  split
  · exact h.testLocked _ _
  · exact h.testLocked _ _
  · exact h.testLost _
  · exact h.testLost _
  · split
    · exact h.endThrow _ _ _
    · exact h

theorem occupancyRise (h : KeepsLaws s u) (r : Record) : KeepsLaws s (u.occupancyRise r) := by
  unfold State.occupancyRise
  split
  · exact h.endThrow _ _ _
  · split
    · exact (h.leaveQueue _).requestLie _ _ _
    · exact h

theorem occupancyEvent (h : KeepsLaws s u) (r : Record) (level : Bool) : KeepsLaws s (u.occupancyEvent r level) := by
  have hguard : KeepsLaws s (if u.guards r.seg level then
      (u.post (.occupancy r.seg level (u.guards r.seg level))).txRequest .guard (.segs (segOne r.seg))
      else u.post (.occupancy r.seg level (u.guards r.seg level))) := by
    split
    · exact (h.post _).txRequest .guard _ rfl
    · exact h.post _
  unfold State.occupancyEvent
  dsimp only
  split
  · exact hguard.occupancyRise r
  · exact hguard

theorem lockChange (h : KeepsLaws s u) (p : Position) (lock : Points) (level : Bool) :
    KeepsLaws s (u.lockChange p lock level) := by
  unfold State.lockChange
  dsimp only
  split
  · exact h.setToc _
  · split
    · exact (h.setToc _).testDetectors _
    · exact h.setToc _

theorem occupancyChange (h : KeepsLaws s u) (p : Position) (level : Bool) : KeepsLaws s (u.occupancyChange p level) := by
  unfold State.occupancyChange
  dsimp only
  split
  · exact h.setToc _
  · split
    · exact (h.setToc _).occupancyEvent _ _
    · exact h.setToc _

theorem possessionOutcome (h : KeepsLaws s u) (r : Report) (withdrawn : Bool) :
    KeepsLaws s (u.possessionOutcome r withdrawn) := by
  unfold State.possessionOutcome
  dsimp only
  split
  · split
    · exact ((h.setToc _).post _).requestRelease _
    · exact (h.setToc _).post _
  · split
    · exact h.setToc _
    · exact (h.setToc _).post _
  · exact h.setToc _

theorem possessionTold (h : KeepsLaws s u) (r : Report) (told : Option ClaimTold) :
    KeepsLaws s (u.possessionTold r told) := by
  unfold State.possessionTold
  split
  · exact h.possessionOutcome r _
  · exact h.setToc _
  · exact h

theorem answerWins (h : KeepsLaws s u) (r : Report) : KeepsLaws s (u.answerWins r) :=
  h.foldl _ (fun _ _ hu => hu.wonTurnout _ _ _) _

theorem dropQueued (h : KeepsLaws s u) (r : Report) : KeepsLaws s (u.dropQueued r) :=
  h.foldl _ (fun _ _ hu => hu.leaveQueue _) _

theorem possessionEnds (h : KeepsLaws s u) (r : Report) : KeepsLaws s (u.possessionEnds r) := by
  unfold State.possessionEnds
  split
  · exact h.post _
  · split
    · exact h.postIf _ _
    · exact h

theorem reportLocked (h : KeepsLaws s u) (seg : Seg) : KeepsLaws s (u.reportLocked seg) := by
  unfold State.reportLocked
  split
  · exact h.requestLie _ _ _
  · exact h

theorem turnoutReport (h : KeepsLaws s u) (r : Report) (told : Option ClaimTold) :
    KeepsLaws s (u.turnoutReport r told) := by
  have hends : KeepsLaws s ((((u.possessionTold r told).answerWins r).dropQueued r).possessionEnds r) :=
    (((h.possessionTold r told).answerWins r).dropQueued r).possessionEnds r
  unfold State.turnoutReport
  dsimp only
  split
  · exact hends.foldl _ (fun _ _ hu => hu.reportLocked _) _
  · exact hends

theorem turnoutTold (h : KeepsLaws s u) (told : Option ClaimTold) : KeepsLaws s (u.turnoutTold told) := by
  unfold State.turnoutTold
  split
  · exact h.setToc _
  · exact h

theorem turnoutRelisten (h : KeepsLaws s u) (held : Nat) : KeepsLaws s (u.turnoutRelisten held) := (h.setToc _).postIf _ _

theorem returnThrow (h : KeepsLaws s u) (seg : Seg) (answer : Answer) (target : Points) :
    KeepsLaws s (u.returnThrow seg answer target) := by
  unfold State.returnThrow
  split
  · exact h.modifyRecord _ _
  · split
    · exact h
    · exact h.joinQueue _ _ _

theorem returnTurnout (h : KeepsLaws s u) (seg : Seg) : KeepsLaws s (u.returnTurnout seg) := by
  unfold State.returnTurnout
  split
  · dsimp only
    split
    · exact (h.requestLie _ _ _).returnThrow _ _ _
    · exact h.requestLie _ _ _
  · exact h
  · exact h

theorem turnoutReturn (h : KeepsLaws s u) : KeepsLaws s u.turnoutReturn :=
  h.foldl _ (fun _ _ hu => hu.returnTurnout _) _

end KeepsLaws

end Sys2Proof.Machine
end

section
/-! So do the operations of the membership unit, the line unit, the verdict TAKEN and the drive port. -/
namespace Sys2Proof.Machine

open Sys2Proof

namespace KeepsLaws

variable {s u : State}

/-! ### The membership unit (chapter 5) -/

/-- The membership unit changed without a change of station state. -/
theorem setMbu_same (h : KeepsLaws s u) (m : Mbu) (hm : m.station = u.mbu.station := by rfl) : KeepsLaws s (u.setMbu m) :=
  h.setMbu m (Or.inr (Or.inr hm))

theorem setPeer (h : KeepsLaws s u) (k : Station) (p : Peer) : KeepsLaws s (u.setPeer k p) := h.setMbu_same _

theorem tellRelisten (h : KeepsLaws s u) (held : Nat) : KeepsLaws s (u.tellRelisten held) := by
  unfold State.tellRelisten
  split
  · exact h.routeRelisten
  · exact h.turnoutRelisten held
  · exact h

theorem relisten (h : KeepsLaws s u) (cause : ChangeCause) : KeepsLaws s (u.relisten cause) := by
  unfold State.relisten
  split
  · refine tellRelisten (h.leaveLine (fun hd => hd.post _) (fun f hf => ?_) rfl) _
    obtain ⟨g, -, rfl⟩ := Option.map_eq_some_iff.mp hf
    rfl
  · exact h

theorem relistenIf (h : KeepsLaws s u) (b : Bool) (cause : ChangeCause) : KeepsLaws s (u.relistenIf b cause) := by
  unfold State.relistenIf
  split
  · exact h.relisten cause
  · exact h

theorem tellHalt (h : KeepsLaws s u) : KeepsLaws s u.tellHalt := by
  unfold State.tellHalt
  split
  · exact h.routeFreeze
  · exact h.setToc _
  · exact h

theorem duplicateHalt (h : KeepsLaws s u) : KeepsLaws s u.duplicateHalt :=
  tellHalt (h.leaveLine (fun hd => hd.post _) (fun _ hf => nomatch hf) rfl)

theorem requestLapse (h : KeepsLaws s u) (k : Station) : KeepsLaws s (u.requestLapse k) := h.txRequest .lapse _ rfl

theorem requestLapses (h : KeepsLaws s u) : KeepsLaws s u.requestLapses :=
  h.foldl _ (fun _ _ hu => hu.requestLapse _) _

theorem announce (h : KeepsLaws s u) : KeepsLaws s u.announce :=
  (((h.enter _ _ (Or.inl (Or.inl rfl))).setMbu_same _).txRequest .beacon _ rfl).requestLapses

theorem startOwnLease (h : KeepsLaws s u) : KeepsLaws s u.startOwnLease := h.setMbu_same _

theorem activate (h : KeepsLaws s u) : KeepsLaws s u.activate := by
  have hactive : KeepsLaws s ((u.enter .active .announceTaken).startOwnLease) :=
    (h.enter _ _ (Or.inl (Or.inr rfl))).startOwnLease
  unfold State.activate State.tellActive
  split
  · exact hactive.routeReturn
  · exact hactive.turnoutReturn
  · exact hactive

theorem see (h : KeepsLaws s u) (k : Station) : KeepsLaws s (u.see k) := (h.setPeer _ _).postIf _ _

theorem lapse (h : KeepsLaws s u) (k : Station) : KeepsLaws s (u.lapse k) := by
  unfold State.lapse
  split
  · exact h.post _
  · exact (h.setPeer _ _).postIf _ _

theorem peerContent (h : KeepsLaws s u) (sender : Station) (p : Payload) : KeepsLaws s (u.peerContent sender p) := by
  unfold State.peerContent
  split
  · exact h.setPeer _ _
  · exact h.foldl _ (fun _ _ hu => hu.lapse _) _
  all_goals exact h

theorem mapConflict (h : KeepsLaws s u) (sender : Station) : KeepsLaws s (u.mapConflict sender) :=
  (h.setMbu_same _).post _

theorem sightingLost (h : KeepsLaws s u) : KeepsLaws s u.sightingLost := by
  unfold State.sightingLost
  split
  · exact h
  · dsimp only
    split
    · exact h.setMbu_same _
    · exact (h.setMbu_same _).mapConflict _

theorem sightingTaken (h : KeepsLaws s u) (before : Vector Peer 32) : KeepsLaws s (u.sightingTaken before) := by
  unfold State.sightingTaken
  split
  · exact h
  · dsimp only
    split
    · split
      · exact (h.setMbu_same _).setPeer _ _
      · exact ((h.setMbu_same _).setPeer _ _).mapConflict _
    · exact h.setMbu_same _

theorem setListen (h : KeepsLaws s u) (f : Listen → Listen) : KeepsLaws s (u.setListen f) := h.setMbu_same _

theorem completionTest (h : KeepsLaws s u) : KeepsLaws s u.completionTest := by
  unfold State.completionTest
  split
  · exact h.announce
  · exact h

theorem hear (h : KeepsLaws s u) (r : Received) : KeepsLaws s (u.hear r) := by
  unfold State.hear
  split
  · split
    · exact (h.setListen _).setCtu _
    · exact h
  · exact h.setListen _
  · exact h.setListen _

theorem retry (h : KeepsLaws s u) : KeepsLaws s u.retry := ((h.setCtu _).setMbu_same _).post _

theorem setOpr (h : KeepsLaws s u) (o : Opr) : KeepsLaws s (u.setOpr o) := h.same ⟨rfl, rfl, rfl, rfl⟩

theorem configFault (h : KeepsLaws s u) (fault : ConfigFault) (hoff : u.online = false) :
    KeepsLaws s (u.configFault fault) :=
  (h.setOpr _).enter _ _ (Or.inr hoff)

theorem readFailed (h : KeepsLaws s u) (hoff : u.online = false) : KeepsLaws s u.readFailed := by
  unfold State.readFailed
  split
  · exact h.setOpr _
  · exact (h.setOpr _).configFault _ hoff

/-- R62, R83: START is left with no frame on the line. -/
theorem leaveStart (h : KeepsLaws s u) (hoff : u.online = false) : KeepsLaws s u.leaveStart := by
  refine enter (setMbu_same (setLiu (setPeer (setToc h _) _ _) _ ?_) _) _ _ (Or.inr hoff)
  exact fun _ hf => nomatch hf

theorem endSettle (h : KeepsLaws s u) (inputs : Vector Inputs 4) (hoff : u.online = false) :
    KeepsLaws s (u.endSettle inputs) := by
  unfold State.endSettle
  dsimp only
  split
  · exact (h.setToc _).leaveStart hoff
  · exact h.setToc _

theorem endRead (h : KeepsLaws s u) (store : List Byte) (odo : Bool) (hoff : u.online = false) :
    KeepsLaws s (u.endRead store odo) := by
  unfold State.endRead
  split
  · exact h.configFault _ hoff
  · next o m _ =>
    have hinstall : KeepsLaws s ((u.install o m).settleOdometer odo) := h.same (by simp [SameForLaws])
    have hstill : ((u.install o m).settleOdometer odo).online = false := by
      rw [(State.of_station (s := u) (by simp)).1, hoff]
    unfold State.tryLeaveStart
    split
    · exact hinstall.leaveStart hstill
    · exact hinstall.setToc _

theorem listenServed (h : KeepsLaws s u) : KeepsLaws s u.listenServed := (h.setListen _).completionTest

theorem expirePeer (h : KeepsLaws s u) (k : Station) (p : Peer) : KeepsLaws s (u.expirePeer k p) := by
  unfold State.expirePeer
  dsimp only
  split
  · exact ((h.setPeer _ _).postIf _ _).requestLapse k
  · exact (h.setPeer _ _).postIf _ _

theorem keepLapse (h : KeepsLaws s u) : KeepsLaws s u.keepLapse := ((((h.setMou _).assertStop _).post _).halt _).refresh

/-! ### The line unit (chapter 3) -/

/-- R39: a station that participates in no frame anew. -/
theorem setLine (h : KeepsLaws s u) (phase : Phase) (line : Option LineFrame)
    (hl : ∀ f, line = some f → f.participating = true →
      u.online = true ∨ ∃ g, u.liu.line = some g ∧ g.participating = true) : KeepsLaws s (u.setLine phase line) :=
  h.setLiu _ hl

/-- The line unit changed beside the frame on the line. -/
theorem setLiu_sameLine (h : KeepsLaws s u) (l : Liu) (hl : l.line = u.liu.line := by rfl) : KeepsLaws s (u.setLiu l) :=
  h.same ⟨rfl, hl, rfl, rfl⟩

theorem seekIdle (h : KeepsLaws s u) (recessive : Nat) : KeepsLaws s (u.seekIdle recessive) :=
  h.setLiu _ fun _ hf => nomatch hf

/-- R42: a frame of this station's own begins in ANNOUNCE and ACTIVE alone, for an entry of its queue. -/
theorem startSend (h : KeepsLaws s u) (e : TxEntry) (honline : u.online = true) (he : e ∈ u.txq.entries) :
    KeepsLaws s (u.startSend e) := by
  have hlaunch : KeepsLaws s (u.setTxq (u.txq.replace e.key (some e.launch))) :=
    h.setTxq _ (u.txq.keys_replace_sublist _ _ fun x hx => by cases hx; rfl) fun hfit =>
      hfit.replace _ _ fun x hx => by cases hx; exact (hfit e he).launch
  exact hlaunch.setLine _ _ fun _ _ _ => Or.inl honline

theorem startReceive (h : KeepsLaws s u) : KeepsLaws s u.startReceive :=
  h.setLine _ _ fun _ hf hp => by cases hf; exact Or.inl hp

theorem countVeto (h : KeepsLaws s u) : KeepsLaws s u.countVeto := (h.setLiu_sameLine _).relistenIf _ _

theorem countRejection (h : KeepsLaws s u) : KeepsLaws s u.countRejection := (h.setLiu_sameLine _).relistenIf _ _

theorem tellRequester (h : KeepsLaws s u) (told : Option ClaimTold) : KeepsLaws s (u.tellRequester told) := by
  unfold State.tellRequester
  split
  · exact h.routeTold told
  · exact h.turnoutTold told
  · exact h

theorem sendOver (h : KeepsLaws s u) (o : SendOutcome) : KeepsLaws s (u.sendOver o) := (h.outcome o).tellRequester _

theorem loseArbitration (h : KeepsLaws s u) : KeepsLaws s u.loseArbitration := by
  refine sendOver (h.setLine _ _ fun f hf hp => Or.inr ?_) _
  obtain ⟨g, hg, rfl⟩ := Option.map_eq_some_iff.mp hf
  exact ⟨g, hg, hp⟩

theorem clashSend (h : KeepsLaws s u) (arbitrated : Bool) : KeepsLaws s (u.clashSend arbitrated) := by
  have hclash : KeepsLaws s (u.setLine .receive (u.liu.line.map LineFrame.afterClash)) :=
    h.setLine _ _ fun f hf hp => by
      obtain ⟨g, -, rfl⟩ := Option.map_eq_some_iff.mp hf
      cases hp
  unfold State.clashSend
  dsimp only
  split
  · exact ((hclash.setLiu_sameLine _ (by simp)).sendOver _).countRejection
  · exact hclash

theorem stuffError (h : KeepsLaws s u) (recessive : Bool) : KeepsLaws s (u.stuffError recessive) := by
  unfold State.stuffError
  split
  · exact h.setLiu_sameLine _
  · exact (h.seekIdle _).sightingLost

theorem endBreak (h : KeepsLaws s u) : KeepsLaws s u.endBreak := by
  unfold State.endBreak
  dsimp only
  split
  · exact (h.seekIdle _).sightingLost.countVeto
  · exact (h.seekIdle _).sightingLost

/-- R39: the frame on the line read on, participated in as before. -/
theorem readOn (h : KeepsLaws s u) (phase : Phase) {line line' : LineFrame} (hline : u.liu.line = some line)
    (hp : line'.participating = line.participating := by rfl) : KeepsLaws s (u.setLine phase (some line')) :=
  h.setLine _ _ fun f hf hpart => by
    cases hf
    exact Or.inr ⟨line, hline, hp ▸ hpart⟩

theorem classifyOwn (h : KeepsLaws s u) (line : LineFrame) (own : OwnFrame) (hline : u.liu.line = some line) :
    KeepsLaws s (u.classifyOwn line own) := by
  unfold State.classifyOwn
  dsimp only
  split
  · exact (h.readOn _ hline).setLiu_sameLine _ (by simp)
  · exact h.readOn _ hline

theorem classifyOther (h : KeepsLaws s u) (line : LineFrame) (f : Frame) (hline : u.liu.line = some line) :
    KeepsLaws s (u.classifyOther line f) := by
  unfold State.classifyOther
  dsimp only
  split
  · split
    · exact (h.readOn _ hline).setLiu_sameLine _
    · exact h.readOn _ hline
  · exact (h.readOn _ hline).setMbu_same _
  · exact h.readOn _ hline

theorem readVeto (h : KeepsLaws s u) (line : LineFrame) (dominant : Bool) (hline : u.liu.line = some line) :
    KeepsLaws s (u.readVeto line dominant) := by
  unfold State.readVeto
  dsimp only
  split
  · split
    · exact (h.readOn _ hline).countVeto
    · exact (h.readOn _ hline).relisten _
  · exact h.readOn _ hline

theorem rejectFrame (h : KeepsLaws s u) (line : LineFrame) : KeepsLaws s (u.rejectFrame line) := by
  unfold State.rejectFrame
  dsimp only
  split
  · split
    · exact ((h.seekIdle 0).sightingLost.sendOver _).countRejection
    · exact (h.seekIdle 0).sightingLost.sendOver _
  · exact (h.seekIdle 0).sightingLost

/-! ### The verdict TAKEN -/

theorem sendTaken (h : KeepsLaws s u) (own : Bool) : KeepsLaws s (u.sendTaken own).1 := by
  unfold State.sendTaken
  split
  · exact (h.outcome .taken).setLiu_sameLine _
  · exact h

theorem applyFrame (h : KeepsLaws s u) (sender : Station) (content : Option Payload) (told : Option ClaimTold) :
    KeepsLaws s (u.applyFrame sender content told) := by
  unfold State.applyFrame
  split
  · exact h
  · unfold State.handReport
    split
    · exact (h.setCtu _).routeReport _ told
    · exact (h.setCtu _).turnoutReport _ told
    · exact h.setCtu _

theorem peersTaken (h : KeepsLaws s u) (tally : StationSet) (sender : Station) (heard : Option Payload) :
    KeepsLaws s (u.peersTaken tally sender heard) := by
  have hseen : KeepsLaws s ((u.seenSet tally sender).foldl State.see u) := h.foldl _ (fun _ _ hu => hu.see _) _
  unfold State.peersTaken
  dsimp only
  split
  · exact (hseen.peerContent _ _).sightingTaken _
  · exact hseen.sightingTaken _

theorem withoutStations (h : KeepsLaws s u) (set : StationSet) : KeepsLaws s (u.setTxq (u.txq.withoutStations set)) :=
  h.setTxq _ (u.txq.keys_withoutStations_sublist set) fun hfit => hfit.withoutStations set

theorem takenOnline (h : KeepsLaws s u) (own : Bool) (r : Received) (tally : StationSet) :
    KeepsLaws s (u.takenOnline own r tally) := by
  have hlease : ∀ v : State, KeepsLaws s v → KeepsLaws s (if v.isActive then v.startOwnLease else v) := fun v hv => by
    split
    · exact hv.startOwnLease
    · exact hv
  have hactivate : ∀ v : State, KeepsLaws s v →
      KeepsLaws s (if v.mbu.station = .announce ∧ ownAnnounce own r.content then v.activate else v) := fun v hv => by
    split
    · exact hv.activate
    · exact hv
  unfold State.takenOnline
  exact hactivate _ (hlease _ ((((h.sendTaken own).applyFrame _ _ _).peersTaken _ _ _).withoutStations _))

theorem takenListening (h : KeepsLaws s u) (r : Received) (tally : StationSet) :
    KeepsLaws s (u.takenListening r tally) := ((h.hear r).peersTaken _ _ _).completionTest

theorem takenRow (h : KeepsLaws s u) (k : Kind) (slots : StationSet) : KeepsLaws s (u.takenRow k slots) := by
  unfold State.takenRow
  split
  · exact h
  · split
    · exact h
    · split
      · unfold State.taken
        split
        · exact h.duplicateHalt
        · dsimp only
          split
          · exact (h.seekIdle 0).takenOnline _ _ _
          · exact (h.seekIdle 0).takenListening _ _
      · exact h

/-! ### The drive port (chapter 10) -/

/-- R181: a reply leaves the notices. -/
theorem answer (h : KeepsLaws s u) (r : Reply) : KeepsLaws s (u.answer r) := h.setDpt _ id

theorem transact (h : KeepsLaws s u) (tests : PortTests) (act : State → State × Reply)
    (hact : KeepsLaws s (act u).1) : KeepsLaws s (u.transact tests act) := by
  unfold State.transact
  split
  · exact h.setDpt _ id
  · split
    · exact h.answer _
    · exact hact.answer _

theorem judge (h : KeepsLaws s u) (refusal : Option Reason) (effect : State → State) (he : KeepsLaws s (effect u)) :
    KeepsLaws s (u.judge refusal effect).1 := by
  unfold State.judge
  split
  · exact h
  · exact he

theorem takeNotice (h : KeepsLaws s u) : KeepsLaws s u.takeNotice.1 := by
  unfold State.takeNotice
  split
  · exact h
  · next n rest hnotices =>
    refine h.setDpt _ fun hd => ⟨?_, hd.2⟩
    have hlength := hd.1
    rw [hnotices, List.length_cons] at hlength
    exact (Nat.le_succ _).trans hlength

theorem relocate (h : KeepsLaws s u) (head : Seg) (tail : Option Seg) (offset : Nat) :
    KeepsLaws s (u.relocate head tail offset) := ((h.withdrawClaim.requestRelease _).setPos _).setRte _

theorem locate (h : KeepsLaws s u) (head : Seg) (tail : Option Seg) (offset : Nat) :
    KeepsLaws s (u.locate head tail offset) := (((h.relocate head tail offset).setRte _).setEngine _).settle

theorem loadSteps (h : KeepsLaws s u) (steps : List Step) : KeepsLaws s (u.loadSteps steps) :=
  ((h.setRte _).setEngine _).settle

theorem loadAct (h : KeepsLaws s u) (segs : List Seg) : KeepsLaws s (u.loadAct segs).1 := by
  unfold State.loadAct
  split
  · exact h
  · split
    · exact h
    · exact h.loadSteps _

theorem cutRoute (h : KeepsLaws s u) : KeepsLaws s u.cutRoute := (h.withdrawClaim.requestRelease _).setRte _

theorem cancel (h : KeepsLaws s u) : KeepsLaws s u.cancel := by
  unfold State.cancel
  refine settle ?_
  split
  · exact h.cutRoute.clearRoute.setEngine _
  · exact h.cutRoute

theorem commit (h : KeepsLaws s u) (o : Offer) : KeepsLaws s (u.commit o) := ((h.setRte _).setEngine _).refresh

theorem takeAct (h : KeepsLaws s u) (serial : Byte) : KeepsLaws s (u.takeAct serial).1 := by
  unfold State.takeAct
  split
  · exact h
  · split
    · exact h.commit _
    · exact h
  · exact h

theorem resumeEngine (h : KeepsLaws s u) : KeepsLaws s u.resumeEngine := by
  unfold State.resumeEngine
  split
  · split
    · exact h.setEngine _
    · split
      · exact (h.setRte _).setEngine _
      · exact h.clearRoute.setEngine _
  · exact h

theorem resume (h : KeepsLaws s u) : KeepsLaws s u.resume := (h.setMou _).resumeEngine.refresh

theorem resumeAct (h : KeepsLaws s u) : KeepsLaws s u.resumeAct.1 := by
  unfold State.resumeAct
  split
  · exact h
  · split
    · exact h.judge _ _ h.resume
    · exact h

theorem dock (h : KeepsLaws s u) : KeepsLaws s u.dock := ((h.clearRoute.setRte _).setEngine _).settle

theorem possess (h : KeepsLaws s u) (segs : List Seg) : KeepsLaws s (u.possess segs) :=
  (h.txRequest .claim _ rfl).setToc _

theorem withdrawPossession (h : KeepsLaws s u) : KeepsLaws s u.withdrawPossession := by
  unfold State.withdrawPossession
  split
  · exact h.withdraw.setToc _
  · exact h

theorem unpossess (h : KeepsLaws s u) : KeepsLaws s u.unpossess := h.withdrawPossession.requestRelease _

theorem throwTo (h : KeepsLaws s u) (seg : Seg) (p : Points) : KeepsLaws s (u.throwTo seg p) := by
  unfold State.throwTo
  split
  · exact h
  · split
    · exact h.modifyRecord _ _
    · exact h.joinQueue _ _ _

theorem throwAct (h : KeepsLaws s u) (seg : Seg) (lie : Option Points) : KeepsLaws s (u.throwAct seg lie).1 := by
  unfold State.throwAct
  split
  · exact h.judge _ _ (h.throwTo _ _)
  · exact h

end KeepsLaws

end Sys2Proof.Machine
end

section
/-! And so does every command, and every step (R39, R72 to R74, R191). -/
namespace Sys2Proof.Machine

open Sys2Proof

/-! ## Every command -/

/-- A fold that goes on with the element it meets, or with what it had, ends with an element of the list or with its start. -/
theorem mem_of_foldl_pick {α : Type} (f : Option α → α → Option α) (hf : ∀ best x, f best x = some x ∨ f best x = best)
    (l : List α) (best : Option α) (a : α) (h : l.foldl f best = some a) : a ∈ l ∨ best = some a := by
  induction l generalizing best with
  | nil => exact Or.inr h
  | cons x rest ih =>
    rcases ih _ h with hmem | hbest
    · exact Or.inl (List.mem_cons_of_mem x hmem)
    · rcases hf best x with hnew | hold
      · exact Or.inl (Option.some.inj (hnew.symm.trans hbest) ▸ List.mem_cons_self)
      · exact Or.inr (hold.symm.trans hbest)

/-- R75: the choice is an entry of the queue that is not in flight. -/
theorem Txq.mem_of_choice {q : Txq} {e : TxEntry} (h : q.choice = some e) : e ∈ q.entries ∧ e.inFlight = false := by
  have hpick := mem_of_foldl_pick _ (fun best x => ?_) _ none e h
  · simpa using hpick
  · cases best with
    | none => exact Or.inl rfl
    | some b => exact (ite_eq_or_eq _ _ _).imp id id

/-- R42: a station with a choice is in ANNOUNCE or ACTIVE. -/
theorem State.choice_eq_some {s : State} {e : TxEntry} (h : s.choice = some e) :
    s.online = true ∧ s.txq.choice = some e := by
  unfold State.choice at h
  split at h
  · next honline => exact ⟨honline, h⟩
  · cases h

/-- R82: a station in START is in neither ANNOUNCE nor ACTIVE. -/
theorem State.offline_of_start {s : State} (h : s.mbu.station = .start) : s.online = false := by
  simp [State.online, h]

/-- R39, R72, R73, R191: every command keeps the four laws. -/
theorem exec_keepsLaws (i : Instr) (s t : State) (h : exec i s = .next t) : KeepsLaws s t := by
  have hs : KeepsLaws s s := .refl s
  have run : ∀ f : State → State, live f s = .next t → KeepsLaws s (f s) → KeepsLaws s t := fun f hl hf =>
    live_of (P := KeepsLaws s) hl hs hf
  have powerUp : ∀ held, KeepsLaws s (s.powerUp held) := fun held =>
    hs.leaveLine (fun _ => ⟨Nat.zero_le _, Nat.zero_le _⟩) (fun _ hf => nomatch hf) rfl
  have reading : s.isReading = true → s.online = false := fun hr =>
    State.offline_of_start (by simpa using (Bool.and_eq_true_iff.mp hr).1)
  have settling : s.isSettling = true → s.online = false := fun hr =>
    State.offline_of_start (by simpa using (Bool.and_eq_true_iff.mp hr).1)
  cases i with
  | reset => cases h; exact powerUp true
  | resetRelease =>
    cases h
    split
    · exact powerUp false
    · exact hs
  | storeRetryWait =>
    refine run _ h ?_
    split
    · next hr => exact hs.readFailed (reading hr)
    · exact hs
  | clockStretchTimeout =>
    refine run _ h ?_
    split
    · next hr => exact hs.configFault _ (reading hr)
    · exact hs
  | optionReadEnd store odo =>
    refine run _ h ?_
    split
    · next hr => exact hs.endRead store odo (reading hr)
    · exact hs
  | detectorSettleEnd p1 p2 p3 p4 =>
    refine run _ h ?_
    split
    · next hr => exact hs.endSettle _ (settling hr)
    · exact hs
  | settleTimeout p1 p2 p3 p4 =>
    refine run _ h ?_
    split
    · next hr => exact hs.endSettle _ (settling (Bool.and_eq_true_iff.mp hr).1)
    · exact hs
  | lineIdle =>
    refine run _ h ?_
    split
    · exact hs.setLiu_sameLine _
    · exact hs
  | transmitStart =>
    simp only [exec, execTransmitStart] at h
    refine run _ h ?_
    split
    · next e he =>
      obtain ⟨honline, hchoice⟩ := State.choice_eq_some he
      split
      · exact hs.startSend e honline (Txq.mem_of_choice hchoice).1
      · exact hs
    · exact hs
  | frameStartReceived =>
    simp only [exec, execFrameStartReceived] at h
    refine run _ h ?_
    split
    · split
      · next e he =>
        obtain ⟨honline, hchoice⟩ := State.choice_eq_some he
        exact hs.startSend e honline (Txq.mem_of_choice hchoice).1
      · exact hs.startReceive
    · exact hs.startReceive
    all_goals exact hs
  | arbitrationLost =>
    refine run _ h ?_
    split
    · exact hs.loseArbitration
    · exact hs
  | clash arbitrated =>
    refine run _ h ?_
    split
    · exact hs.clashSend arbitrated
    · exact hs
  | stuffError recessive =>
    refine run _ h ?_
    split
    · exact hs.stuffError recessive
    · exact hs
  | breakEnd =>
    refine run _ h ?_
    split
    · exact hs.endBreak
    · exact hs
  | frameClassify f =>
    simp only [exec, execFrameClassify] at h
    refine run _ h ?_
    split
    · exact hs
    · next line hline =>
      split
      · next own _ _ _ => exact hs.classifyOwn line own hline
      · exact hs.classifyOther line f hline
      · exact hs
  | vetoSlotEnd dominant =>
    simp only [exec, execVetoSlotEnd] at h
    refine run _ h ?_
    split
    · exact hs
    · next line hline =>
      split
      · exact hs.readVeto line dominant hline
      · exact hs
  | driveFailure =>
    simp only [exec, execDriveFailure] at h
    refine run _ h ?_
    split
    · exact hs
    · next line hline =>
      split
      · exact hs.readVeto line false hline
      · split
        · exact hs.relisten _
        · exact hs
  | frameRejected slots =>
    simp only [exec, execFrameRejected] at h
    refine run _ h ?_
    split
    · exact hs
    · split
      · exact hs.rejectFrame _
      · exact hs
  | beaconTaken slots | claimTaken slots | reclaimTaken slots | releaseTaken slots | lapseTaken slots | clearTaken slots
  | guardTaken slots | lieTaken slots => exact run _ h (hs.takenRow _ slots)
  | listenTimerExpiry =>
    refine run _ h ?_
    split
    · exact hs.listenServed
    · exact hs
  | listenLimitExpiry =>
    refine run _ h ?_
    split
    · exact hs.retry
    · exact hs
  | ownLeaseExpiry =>
    refine run _ h ?_
    split
    · exact hs.relisten _
    · exact hs
  | remoteLeaseExpiry peer =>
    refine run _ h ?_
    split
    · exact hs.expirePeer _ _
    · exact hs
  | beaconTimerExpiry =>
    refine run _ h ?_
    split
    · exact (hs.setMbu_same _).txRequest .beacon _ rfl
    · exact hs
  | holdOffExpiry =>
    refine run _ h ?_
    split
    · exact (hs.setRte _).settle
    · exact hs
  | lieWaitExpiry step =>
    simp only [exec, execLieWaitExpiry] at h
    refine run _ h ?_
    split
    · exact (hs.setRte _).post _
    · exact hs
  | keepTimerExpiry =>
    refine run _ h ?_
    split
    · exact hs.keepLapse
    · exact hs
  | spdPeriodStart =>
    simp only [exec, execSpdPeriodStart] at h
    exact run _ h (hs.setMou _)
  | odometerCount =>
    simp only [exec, execOdometerCount] at h
    exact run _ h hs.odometerRise
  | filteredOdometerFall =>
    simp only [exec, execFilteredOdometerFall] at h
    refine run _ h ?_
    unfold State.odometerFall
    split
    · exact hs.setPos _
    · exact hs
  | tagReceived start bits stop =>
    simp only [exec, execTagReceived] at h
    exact run _ h (hs.tagRead start bits stop)
  | lockLevelChange position lock level =>
    simp only [exec, execLockLevelChange] at h
    exact run _ h (hs.lockChange position lock level)
  | occupancyChange position level =>
    simp only [exec, execOccupancyChange] at h
    exact run _ h (hs.occupancyChange position level)
  | throwTimerExpiry position =>
    simp only [exec, execThrowTimerExpiry] at h
    refine run _ h ?_
    split
    · split
      · exact hs.endThrow _ _ _
      · exact hs
    · exact hs
  | staggerExpiry =>
    refine run _ h ?_
    split
    · exact (hs.setToc _).pump
    · exact hs
  | busyTransaction =>
    simp only [exec, execBusyTransaction] at h
    exact run _ h (hs.setDpt _ id)
  | invalidCommand message =>
    simp only [exec, execInvalidCommand] at h
    refine run _ h ?_
    split
    · exact hs
    · exact hs.transact _ _ hs
  | status | readEntry _ | readPeer _ => exact run _ h (hs.transact _ _ hs)
  | notice => exact run _ h (hs.transact _ _ hs.takeNotice)
  | clearCommand segments => exact run _ h (hs.transact _ _ (hs.judge _ _ (hs.txRequest .clear _ rfl)))
  | locate head offset tail => exact run _ h (hs.transact _ _ (hs.judge _ _ (hs.locate _ _ _)))
  | loadRoute segments => exact run _ h (hs.transact _ _ (hs.loadAct _))
  | cancel => exact run _ h (hs.transact _ _ (hs.judge _ _ hs.cancel))
  | take serial => exact run _ h (hs.transact _ _ (hs.takeAct serial))
  | resume => exact run _ h (hs.transact _ _ hs.resumeAct)
  | docked => exact run _ h (hs.transact _ _ (hs.judge _ _ hs.dock))
  | keep => exact run _ h (hs.transact _ _ (hs.judge _ _ (hs.setMou _)))
  | possess segments => exact run _ h (hs.transact _ _ (hs.judge _ _ (hs.possess _)))
  | unpossess => exact run _ h (hs.transact _ _ (hs.judge _ _ hs.unpossess))
  | throw segment lie => exact run _ h (hs.transact _ _ (hs.throwAct _ _))

/-- One millisecond touches nothing the laws speak of. -/
theorem KeepsLaws.tick (s : State) : KeepsLaws s s.tick := by
  unfold State.tick
  split
  · exact .refl s
  · exact (KeepsLaws.refl s).same ⟨rfl, rfl, rfl, rfl⟩

/-- Settles O57: a step is a millisecond or a command, and both keep the four laws (`exec_keepsLaws`). -/
theorem stepsKeepTheQueueLaws : Obligations.StepsKeepTheQueueLaws := by
  intro s t hstep
  have hkeeps : KeepsLaws s t := by
    unfold step at hstep
    split at hstep
    · cases hstep
      exact .tick s
    · next i rest _ =>
      have hrest : KeepsLaws s (s.setPending rest) := (KeepsLaws.refl s).same ⟨rfl, rfl, rfl, rfl⟩
      exact hrest.trans (exec_keepsLaws i _ t hstep)
  exact ⟨hkeeps.notices, hkeeps.trackline, hkeeps.queue, hkeeps.args⟩

end Sys2Proof.Machine
end

section
/-! The line unit (R38 to R62): the idle gap and the start bit, stuff errors and breaks, the veto slot and the output TLO. -/
namespace Sys2Proof.Machine

open Sys2Proof

/-! ## Phases in which an event acts -/

/-- R41: the idle gap. -/
theorem exec_lineIdle_of_seek (s : State) (hr : s.inReset = false) (hphase : s.liu.phase = .seek) :
    exec .lineIdle s = .next (s.setLiu { s.liu with phase := .idle, recessive := 12 }) :=
  (live_next _ s hr).trans (by rw [if_pos hphase]; rfl)

/-- R42: another station's start bit is taken as the own one by an idle station with a choice. -/
theorem exec_frameStartReceived_of_choice (s : State) (e : TxEntry) (hr : s.inReset = false) (hphase : s.liu.phase = .idle)
    (hchoice : s.choice = some e) : exec .frameStartReceived s = .next (s.startSend e) := by
  simp only [exec, execFrameStartReceived, live_next _ s hr, hphase, hchoice]

/-- R41, R42: any other start bit is another station's frame. -/
theorem exec_frameStartReceived_of_none (s : State) (hr : s.inReset = false)
    (h : (s.liu.phase = .idle ∧ s.choice = none) ∨ s.liu.phase = .seek) :
    exec .frameStartReceived s = .next s.startReceive := by
  rcases h with ⟨hphase, hchoice⟩ | hphase
  · simp only [exec, execFrameStartReceived, live_next _ s hr, hphase, hchoice]
  · simp only [exec, execFrameStartReceived, live_next _ s hr, hphase]

/-- R42: the own start bit. -/
theorem exec_transmitStart_of_choice (s : State) (e : TxEntry) (hr : s.inReset = false) (hphase : s.liu.phase = .idle)
    (hchoice : s.choice = some e) : exec .transmitStart s = .next (s.startSend e) := by
  simp only [exec, execTransmitStart, live_next _ s hr, hphase, hchoice, if_true]

/-- R42: an online station's choice is its queue's. -/
theorem State.choice_of_online {s : State} (honline : s.online = true) : s.choice = s.txq.choice := if_pos honline

/-- Settles O9, event by event. -/
theorem lineIdleAndStarts : Obligations.LineIdleAndStarts := by
  intro s hr
  refine ⟨exec_lineIdle_of_seek s hr, exec_frameStartReceived_of_none s hr, fun e i hphase honline hchoice hi => ?_⟩
  have hstate : s.choice = some e := (State.choice_of_online honline).trans hchoice
  rcases hi with rfl | rfl
  · exact exec_transmitStart_of_choice s e hr hphase hstate
  · exact exec_frameStartReceived_of_choice s e hr hphase hstate

/-! ## Stuff errors and breaks -/

/-- R48: a stuff error acts in RECEIVE. -/
theorem exec_stuffError_of_receive (s : State) (recessive : Bool) (hr : s.inReset = false) (hphase : s.liu.phase = .receive) :
    exec (.stuffError recessive) s = .next (s.stuffError recessive) :=
  (live_next _ s hr).trans (by rw [if_pos hphase])

/-- R48, R49: a participant drives the break. -/
theorem State.stuffError_of_participant (s : State) (l : LineFrame) (recessive : Bool) (hline : s.liu.line = some l)
    (hp : l.participating = true) :
    s.stuffError recessive = s.setLiu { s.liu with phase := .breaking, breakOnRecessive := recessive } := by
  simp [State.stuffError, hline, hp]

/-- R41, R48: another station counts on from the run. -/
theorem State.stuffError_of_other (s : State) (l : LineFrame) (recessive : Bool) (hline : s.liu.line = some l)
    (hp : l.participating = false) :
    s.stuffError recessive = (s.seekIdle (if recessive then 7 else 0)).sightingLost := by
  simp [State.stuffError, hline, hp, Config.stuffRun]

/-- R49: the end of a break. -/
theorem exec_breakEnd_of_breaking (s : State) (hr : s.inReset = false) (hphase : s.liu.phase = .breaking) :
    exec .breakEnd s = .next s.endBreak :=
  (live_next _ s hr).trans (by rw [if_pos hphase])

/-- R49, R58: the break is counted where this station drove it on a recessive run. -/
theorem State.endBreak_eq (s : State) (l : LineFrame) (hline : s.liu.line = some l) :
    s.endBreak = if l.participating = true ∧ s.liu.breakOnRecessive = true then (s.seekIdle 0).sightingLost.countVeto
      else (s.seekIdle 0).sightingLost := by
  simp [State.endBreak, hline, and_comm]

/-- R58: below the limit a veto is counted and nothing else. -/
theorem State.countVeto_of_below (s : State) (h : s.liu.vetoRun < 7) :
    s.countVeto = s.setLiu { s.liu with vetoRun := s.liu.vetoRun + 1 } := by
  have hlimit : ¬ Config.vetoRunLimit ≤ s.liu.vetoRun + 1 := by simp only [Config.vetoRunLimit]; omega
  simp [State.countVeto, State.relistenIf, hlimit]

/-- Settles O12, by participation; a break on a recessive run is one more veto run (`State.countVeto_of_below`). -/
theorem stuffErrorsAndBreaks : Obligations.StuffErrorsAndBreaks := by
  intro s l recessive hr hline
  refine ⟨fun hphase hp => ?_, fun hphase hp => ?_, fun hphase hbelow => ?_⟩
  · rw [exec_stuffError_of_receive s recessive hr hphase, s.stuffError_of_participant l recessive hline hp]
  · rw [exec_stuffError_of_receive s recessive hr hphase, s.stuffError_of_other l recessive hline hp]
    rfl
  · have hliu : (s.seekIdle 0).sightingLost.liu = s.liu.seek 0 := by simp [State.seekIdle]
    rw [exec_breakEnd_of_breaking s hr hphase, s.endBreak_eq l hline]
    by_cases hcounts : l.participating = true ∧ s.liu.breakOnRecessive = true
    · have hrun : (s.seekIdle 0).sightingLost.liu.vetoRun < 7 := hliu ▸ hbelow hcounts.1 hcounts.2
      rw [if_pos hcounts, if_pos hcounts, State.countVeto_of_below _ hrun, hliu]
      rfl
    · rw [if_neg hcounts, if_neg hcounts]
      exact congrArg (fun liu => Host.Outcome.next ((s.seekIdle 0).sightingLost.setLiu liu)) hliu

/-! ## The veto slot -/

/-- R52: the veto slot is read where it comes next. -/
theorem exec_vetoSlotEnd_of_atVeto (s : State) (l : LineFrame) (dominant : Bool) (hr : s.inReset = false) (h : AtVeto s l) :
    exec (.vetoSlotEnd dominant) s = .next (s.readVeto l dominant) := by
  obtain ⟨hline, hreceived, hveto, hphase⟩ := h
  have hnext : s.liu.vetoNext l = true := (Liu.vetoNext_iff _ _).mpr ⟨hreceived, hveto, hphase⟩
  simp only [exec, execVetoSlotEnd, live_next _ s hr, hline, hnext, if_true]

/-- R52, R58: a driven veto that reads dominant is counted below its limit. -/
theorem State.readVeto_of_below (s : State) (l : LineFrame) (dominant : Bool)
    (h : l.vetoes = true → dominant = true ∧ s.liu.vetoRun < 7) :
    s.readVeto l dominant = s.setLiu { s.liu with
      phase := .slots
      line := some { l with veto := some dominant }
      vetoRun := if l.vetoes then s.liu.vetoRun + 1 else s.liu.vetoRun } := by
  unfold State.readVeto
  by_cases hv : l.vetoes = true
  · obtain ⟨hdominant, hrun⟩ := h hv
    have hbelow : (s.setLine .slots (some { l with veto := some dominant })).liu.vetoRun < 7 := hrun
    simp only [hv, if_true, if_pos hdominant, State.countVeto_of_below _ hbelow]
    rfl
  · simp only [hv]
    rfl

/-! ## The output TLO (R38, R39, R61) -/

/-- R43, R44: the start bit goes out as it is, before any stuff bit. -/
theorem frameWire_eq (f : Frame) : ∃ rest, frameWire f = false :: rest :=
  ⟨stuffFrom 1 false (frameCover f ++ bitsOf f.crc), rfl⟩

/-- R38, R44: what an own frame has on the line. -/
theorem State.tlo_of_send (s : State) (l : LineFrame) (own : OwnFrame) (hphase : s.liu.phase = .send)
    (hline : s.liu.line = some l) (hown : l.own = some own) :
    s.tlo = if l.received.isSome then [!(frameWire own.frame).getLastD true] else (frameWire own.frame).tail.map (!·) := by
  simp only [State.tlo, hphase, hline, hown]

/-- R38, R44: the frame not yet classified goes out from its second bit on. -/
theorem State.tlo_of_unclassified (s : State) (l : LineFrame) (own : OwnFrame) (hphase : s.liu.phase = .send)
    (hline : s.liu.line = some l) (hown : l.own = some own) (hreceived : l.received = none) :
    frameWire own.frame = false :: s.tlo.map fun on => !on := by
  obtain ⟨rest, hwire⟩ := frameWire_eq own.frame
  rw [s.tlo_of_send l own hphase hline hown, hwire]
  simp [hreceived, Function.comp_def]

/-- R38, R44: the frame classified has its last bit still to go out. -/
theorem State.tlo_of_classified (s : State) (l : LineFrame) (own : OwnFrame) (hphase : s.liu.phase = .send)
    (hline : s.liu.line = some l) (hown : l.own = some own) (hreceived : l.received.isSome) :
    ∃ on before, s.tlo = [on] ∧ frameWire own.frame = before ++ [!on] := by
  obtain ⟨rest, hwire⟩ := frameWire_eq own.frame
  refine ⟨_, (frameWire own.frame).dropLast, by rw [s.tlo_of_send l own hphase hline hown, if_pos hreceived], ?_⟩
  rw [Bool.not_not, hwire, List.getLastD_eq_getLast?, List.getLast?_eq_some_getLast (by simp), Option.getD_some,
    List.dropLast_append_getLast]

/-- R52: whether a classified frame is vetoed. -/
theorem LineFrame.vetoes_of_received (l : LineFrame) (r : Received) (h : l.received = some r) :
    l.vetoes = (l.participating && l.own.isNone && r.cls != .good) := by
  simp only [LineFrame.vetoes, h]

/-- R53: whether a classified frame is tallied. -/
theorem LineFrame.tallies_iff (l : LineFrame) (r : Received) (veto : Bool) (h : l.received = some r)
    (hveto : l.veto = some veto) : l.tallies = true ↔ l.participating = true ∧ veto = false ∧ r.cls = .good := by
  simp only [LineFrame.tallies, h, hveto, Bool.and_eq_true, beq_iff_eq, Option.some.injEq, and_assoc]

/-- R39: a station that neither participates nor sends drives nothing. -/
theorem State.tlo_off (s : State) (hlaw : TracklineLaw s) (hoff : s.online = false) (hphase : s.liu.phase ≠ .send) :
    ∀ on ∈ s.tlo, on = false := by
  have hout : ∀ l, s.liu.line = some l → l.participating = false := fun l hl => by
    cases hp : l.participating with
    | false => rfl
    | true => exact nomatch (hlaw l hl hp).symm.trans hoff
  have hchoice : s.choice = none := if_neg (by simp [hoff])
  intro on hon
  unfold State.tlo at hon
  split at hon
  case h_1 => simp [hchoice] at hon
  case h_2 hsend _ => exact absurd hsend hphase
  case h_3 l _ hl =>
    split at hon
    · simpa [LineFrame.vetoes, hout l hl] using hon
    · cases hon
  case h_4 l _ hl => simpa [hout l hl] using (List.mem_replicate.mp hon).2
  case h_5 l _ hl =>
    split at hon
    · simpa [LineFrame.vetoes, hout l hl] using hon
    · obtain ⟨_, _, rfl⟩ := List.mem_map.mp hon
      simp [LineFrame.tallies, hout l hl]
  all_goals cases hon

/-- Settles O14: the reading of the veto slot (`State.readVeto_of_below`), and TLO phase by phase. -/
theorem vetoSlotIsRead : Obligations.VetoSlotIsRead := by
  refine ⟨fun s l dominant hr hat h => ?_, fun s => ⟨fun h hidle => ?_, fun hphase hchoice => ?_, fun e hphase hchoice => ?_,
    fun l own hphase hline hown => ⟨s.tlo_of_unclassified l own hphase hline hown,
      s.tlo_of_classified l own hphase hline hown⟩,
    fun l hphase hline => ⟨fun hnone => ?_, fun r hsome => ?_⟩, fun l hphase hline => ?_,
    fun l r hphase hline hreceived => ⟨fun hnone => ?_, fun veto hveto => ⟨?_, fun k hk => ?_⟩⟩, s.tlo_off⟩⟩
  · rw [exec_vetoSlotEnd_of_atVeto s l dominant hr hat, s.readVeto_of_below l dominant h]
  · unfold State.tlo
    rcases h with hphase | hphase | hline
    · simp only [hphase]
    · simp only [hphase]
    · cases hphase : s.liu.phase <;> simp_all
  · simp only [State.tlo, hphase, hchoice]; rfl
  · exact ⟨by simp only [State.tlo, hphase, hchoice]; rfl, (State.choice_eq_some hchoice).1⟩
  · simp only [State.tlo, hphase, hline, hnone]; rfl
  · simp only [State.tlo, hphase, hline, hsome, l.vetoes_of_received r hsome]; rfl
  · simp only [State.tlo, hphase, hline]; rfl
  · simp only [State.tlo, hphase, hline, hnone, l.vetoes_of_received r hreceived]; rfl
  · simp [State.tlo, hphase, hline, hveto, Config.tallySlots]
  · have hslot : (List.range Config.tallySlots)[k]? = some k := List.getElem?_range hk
    have htally := l.tallies_iff r veto hreceived hveto
    simp only [State.tlo, hphase, hline, hveto, Option.isNone_some, Bool.false_eq_true, if_false, List.getElem?_map, hslot,
      Option.map_some, Option.some.injEq]
    rw [Bool.eq_iff_iff]
    simp only [Bool.and_eq_true, htally, decide_eq_true_eq, and_assoc]

end Sys2Proof.Machine
end

section
/-! The planner beside the line unit: what it does it does whatever the line unit holds, so that a count raised after it is a count raised before it. -/
namespace Sys2Proof.Machine

open Sys2Proof

/-! ## The planner does not read the line unit -/

namespace State

variable (s : State) (l : Liu)

theorem setEngine_setLiu (state : RteState) : (s.setLiu l).setEngine state = (s.setEngine state).setLiu l := by
  unfold setEngine
  rw [setLiu_rte]
  by_cases h : s.rte.state = state
  · rw [if_pos h, if_pos h]
  · rw [if_neg h, if_neg h]
    by_cases hmoving : s.rte.state = .moving
    · rw [if_pos hmoving, if_pos hmoving]; rfl
    · rw [if_neg hmoving, if_neg hmoving]; rfl

theorem postIf_setLiu (b : Bool) (n : Notice) : (s.setLiu l).postIf b n = (s.postIf b n).setLiu l := by
  cases b <;> rfl

theorem txRequest_setLiu (key : EntryKey) (args : Args) :
    (s.setLiu l).txRequest key args = (s.txRequest key args).setLiu l := by
  have haccepts : (s.setLiu l).txAccepts key args = s.txAccepts key args := rfl
  unfold txRequest
  rw [haccepts]
  cases s.txAccepts key args <;> rfl

theorem queueClaim_setLiu (front : PlanItem) (rest : List PlanItem) :
    (s.setLiu l).queueClaim front rest = (s.queueClaim front rest).setLiu l := by
  simp only [queueClaim, setLiu_rte, txRequest_setLiu]
  rfl

theorem placementWon_setLiu : (s.setLiu l).placementWon = s.placementWon.setLiu l := by
  simp only [placementWon, setLiu_rte, setEngine_setLiu]
  exact postIf_setLiu (setRte _ _) l _ _

theorem plan_setLiu : (s.setLiu l).plan = s.plan.setLiu l := by
  have hdone : (if (s.setLiu l).placementDone then (s.setLiu l).placementWon else s.setLiu l) =
      (if s.placementDone then s.placementWon else s).setLiu l := by
    rw [placementWon_setLiu, show (s.setLiu l).placementDone = s.placementDone from rfl]
    cases s.placementDone <;> rfl
  simp only [plan, hdone]
  generalize (if s.placementDone = true then s.placementWon else s) = u
  rw [show (u.setLiu l).mayPlan = u.mayPlan from rfl, show (u.setLiu l).bundle = u.bundle from rfl]
  cases u.mayPlan with
  | false => rfl
  | true =>
    cases u.bundle with
    | nil => rfl
    | cons front rest => exact queueClaim_setLiu u l front rest

theorem refreshOffer_setLiu : (s.setLiu l).refreshOffer = s.refreshOffer.setLiu l := by
  unfold refreshOffer
  rw [show (s.setLiu l).offerable = s.offerable from rfl, setLiu_rte]
  cases s.offerable with
  | none => rfl
  | some a =>
    dsimp only
    cases s.rte.offer.any fun o => o.step == a <;> rfl

theorem refresh_setLiu : (s.setLiu l).refresh = s.refresh.setLiu l := by
  unfold refresh
  rw [refreshOffer_setLiu]
  rfl

/-- R114, R133, R144: planner, offer rule and duty are the same whatever the line unit holds. -/
theorem settle_setLiu : (s.setLiu l).settle = s.settle.setLiu l := by
  unfold settle
  rw [plan_setLiu, refresh_setLiu]

end State

end Sys2Proof.Machine
end

section
/-! Frames of this station that are not taken (R46, R47, R54, R59, R77, R79): a lost arbitration, a clash, the verdict REJECTED, and the rejection count. -/
namespace Sys2Proof.Machine

open Sys2Proof

/-! ## The rejection count (R59) -/

/-- R59: below the limit a rejection is counted and nothing else. -/
theorem State.countRejection_of_below (s : State) (h : s.liu.rejections < 15) :
    s.countRejection = s.setLiu { s.liu with rejections := s.liu.rejections + 1 } := by
  have hlimit : ¬ Config.rejectionLimit ≤ s.liu.rejections + 1 := by simp only [Config.rejectionLimit]; omega
  simp [State.countRejection, State.relistenIf, hlimit]

/-- R59, R96: what a relisten at the limit of the rejection count leaves. -/
def RelistenedByRejections (map : Option TrackMap) (t : State) : Prop :=
  t.mbu.station = .listen ∧ t.mbu.cause = .rejectionLimit ∧ t.txq.entries = [] ∧ t.liu.rejections = 0 ∧
    t.liu.vetoRun = 0 ∧ t.ctu = clearTable map

/-- R59: the sixteenth rejection relistens. -/
theorem State.countRejection_of_limit (s : State) (h : 15 ≤ s.liu.rejections) (honline : s.online = true) :
    RelistenedByRejections s.opr.map s.countRejection := by
  have hlimit : Config.rejectionLimit ≤ s.liu.rejections + 1 := by simp only [Config.rejectionLimit]; omega
  have hcount : s.countRejection =
      (s.setLiu { s.liu with rejections := s.liu.rejections + 1 }).relisten .rejectionLimit := by
    simp [State.countRejection, State.relistenIf, hlimit]
  obtain ⟨hstation, hcause, -, -, -, -, -, -, hctu, htxq, -, hrun, hrejections, -⟩ :=
    relisten_all (s.setLiu { s.liu with rejections := s.liu.rejections + 1 }) .rejectionLimit honline
  rw [hcount]
  exact ⟨hstation, hcause, htxq, hrejections, hrun, hctu⟩

/-- R59: so it does after the outcome at the transmit queue. -/
theorem State.countRejection_sendOver_of_limit (s : State) (o : SendOutcome) (h : 15 ≤ s.liu.rejections)
    (honline : s.online = true) : RelistenedByRejections s.opr.map (s.sendOver o).countRejection := by
  have hstation : (s.sendOver o).mbu.station = s.mbu.station := by simp
  have hrelisten := (s.sendOver o).countRejection_of_limit (by simpa using h)
    ((State.of_station hstation).1.trans honline)
  simpa using hrelisten

/-- R59: the counts of a clash beside the rest of the line unit. -/
theorem Liu.countClash_eq (l : Liu) (arbitrated : Bool) (id : SendId) :
    l.countClash arbitrated id = { l with
      counted := if arbitrated = true then some id else l.counted
      rejections := if arbitrated = true ∧ l.counted ≠ some id then 0 else l.rejections } := by
  cases arbitrated with
  | false => rfl
  | true =>
    simp only [Liu.countClash, Liu.countFor, if_true, true_and]
    by_cases h : l.counted = some id
    · rw [if_pos h, if_neg (not_not_intro h), ← h]
    · rw [if_neg h, if_pos h]

/-! ## An outcome at the transmit queue that is no verdict TAKEN (R77, R79) -/

/-- R57: with nothing in flight there is no outcome, whatever the line unit holds. -/
theorem State.sendOver_setLiu_of_none (s : State) (liu : Liu) (o : SendOutcome) (h : s.txq.flying = none) :
    (s.setLiu liu).sendOver o = s.setLiu liu := sendOver_none (s.setLiu liu) o h

/-- R79: a withdrawn claim is discarded, and its requester is told. -/
theorem State.sendOver_of_withdrawn (s : State) (o : SendOutcome) (ho : o ≠ .taken) (e : TxEntry) (f : Flight)
    (he : s.txq.flying = some e) (hf : e.flight = some f) (hw : f.withdrawn = true) :
    s.sendOver o = (s.setTxq (s.txq.replace e.key none)).tellRequester (some .discarded) := by
  cases o with
  | taken => exact absurd rfl ho
  | rejected | notSent => simp [State.sendOver, Txq.outcome, he, hf, hw]

/-- R79: the turnout controller's claim is over. -/
theorem State.sendOver_of_withdrawn_wayside (s : State) (o : SendOutcome) (ho : o ≠ .taken) (e : TxEntry) (f : Flight)
    (he : s.txq.flying = some e) (hf : e.flight = some f) (hw : f.withdrawn = true) (hrole : s.role = some .wayside) :
    s.sendOver o = (s.setTxq (s.txq.replace e.key none)).setToc { s.toc with claiming := false } := by
  have htold : (s.setTxq (s.txq.replace e.key none)).role = some .wayside := hrole
  rw [s.sendOver_of_withdrawn o ho e f he hf hw, State.tellRequester, htold]
  rfl

/-- R79, R118: the planner's claim is over, and the planner tests. -/
theorem State.sendOver_of_withdrawn_carriage (s : State) (o : SendOutcome) (ho : o ≠ .taken) (e : TxEntry) (f : Flight)
    (he : s.txq.flying = some e) (hf : e.flight = some f) (hw : f.withdrawn = true) (hrole : s.role = some .carriage)
    (hclaim : s.rte.claim.isSome) :
    s.sendOver o = ((s.setTxq (s.txq.replace e.key none)).setRte { s.rte with claim := none }).settle := by
  have htold : (s.setTxq (s.txq.replace e.key none)).role = some .carriage := hrole
  obtain ⟨c, hc⟩ := Option.isSome_iff_exists.mp hclaim
  have houtcome : (s.setTxq (s.txq.replace e.key none)).claimOutcome (some .discarded) none =
      (s.setTxq (s.txq.replace e.key none)).setRte { s.rte with claim := none } := by
    simp only [State.claimOutcome, State.setTxq_rte, hc]
  rw [s.sendOver_of_withdrawn o ho e f he hf hw, State.tellRequester, htold]
  exact congrArg State.settle houtcome

/-- R59, R77, R79: the outcome of a frame that was not taken, with the line unit as it stands after it: the entry is given back, or a withdrawn claim
is over at a wayside or at a carriage. -/
def NotTaken (s : State) (e : TxEntry) (f : Flight) (liu : Liu) (t : State) : Prop :=
  (f.withdrawn = false → t = (s.setTxq (s.txq.replace e.key (some (e.mergedBack f)))).setLiu liu) ∧
    (f.withdrawn = true → s.role = some .wayside →
      t = ((s.setTxq (s.txq.replace e.key none)).setLiu liu).setToc { s.toc with claiming := false }) ∧
    (f.withdrawn = true → s.role = some .carriage → s.rte.claim.isSome →
      t = (((s.setTxq (s.txq.replace e.key none)).setLiu liu).setRte { s.rte with claim := none }).settle)

/-- R77, R79: the outcome, told with the line unit at hand. -/
theorem State.notTaken_sendOver (s : State) (o : SendOutcome) (ho : o ≠ .taken) (e : TxEntry) (f : Flight) (liu : Liu)
    (he : s.txq.flying = some e) (hf : e.flight = some f) : NotTaken s e f liu ((s.setLiu liu).sendOver o) := by
  refine ⟨fun hw => ?_, fun hw hrole => ?_, fun hw hrole hclaim => ?_⟩
  · have hor : o = .rejected ∨ o = .notSent := by
      cases o with
      | taken => exact absurd rfl ho
      | rejected => exact Or.inl rfl
      | notSent => exact Or.inr rfl
    exact sendOver_keep (s.setLiu liu) o hor e f he hf hw
  · exact (s.setLiu liu).sendOver_of_withdrawn_wayside o ho e f he hf hw hrole
  · exact (s.setLiu liu).sendOver_of_withdrawn_carriage o ho e f he hf hw hrole hclaim

/-- The line unit may change after the outcome as before it (`State.settle_setLiu`). -/
theorem NotTaken.setLiu {s t : State} {e : TxEntry} {f : Flight} {liu : Liu} (h : NotTaken s e f liu t) (l : Liu) :
    NotTaken s e f l (t.setLiu l) := by
  obtain ⟨hback, hwayside, hcarriage⟩ := h
  refine ⟨fun hw => ?_, fun hw hrole => ?_, fun hw hrole hclaim => ?_⟩
  · rw [hback hw]; rfl
  · rw [hwayside hw hrole]; rfl
  · rw [hcarriage hw hrole hclaim, ← State.settle_setLiu]; rfl

/-- R59: a rejection counted below the limit after the outcome. -/
theorem State.notTaken_countRejection (s : State) (e : TxEntry) (f : Flight) (liu : Liu) (he : s.txq.flying = some e)
    (hf : e.flight = some f) (hbelow : liu.rejections < 15) :
    NotTaken s e f { liu with rejections := liu.rejections + 1 } ((s.setLiu liu).sendOver .rejected).countRejection := by
  have hliu : ((s.setLiu liu).sendOver .rejected).liu = liu := by simp
  rw [State.countRejection_of_below _ (hliu.symm ▸ hbelow), hliu]
  exact (s.notTaken_sendOver .rejected (by decide) e f liu he hf).setLiu _

/-! ## Arbitration and clash (R46, R47) -/

/-- R46: a frame at the end of its CRC is past arbitration. -/
theorem exec_arbitrationLost_of_classified (s : State) (l : LineFrame) (hr : s.inReset = false)
    (hline : s.liu.line = some l) (h : l.received.isSome) : exec .arbitrationLost s = .next s := by
  simp [exec, execArbitrationLost, live_next _ s hr, Liu.classified, hline, h]

/-- R46: a lost arbitration: NOT SENT, with the frame received from there on. -/
theorem exec_arbitrationLost_of_unclassified (s : State) (l : LineFrame) (hr : s.inReset = false)
    (hphase : s.liu.phase = .send) (hline : s.liu.line = some l) (h : l.received = none) :
    exec .arbitrationLost s =
      .next ((s.setLiu { s.liu with phase := .receive, line := some { l with own := none } }).sendOver .notSent) := by
  simp only [exec, execArbitrationLost, live_next _ s hr, Liu.classified, hphase, hline, Option.any_some, h,
    State.loseArbitration, Option.map_some]
  rfl

/-- R47: a clash with nothing in flight is not counted. -/
theorem exec_clash_of_none (s : State) (l : LineFrame) (arbitrated : Bool) (hr : s.inReset = false)
    (hphase : s.liu.phase = .send) (hline : s.liu.line = some l) (hnone : s.txq.flying = none) :
    exec (.clash arbitrated) s = .next (s.setLiu { s.liu with phase := .receive, line := some l.afterClash }) := by
  simp only [exec, execClash, live_next _ s hr, hphase, if_true, State.clashSend, hnone, hline]
  rfl

/-- R47, R59: a clash of the entry in flight. -/
theorem exec_clash_of_flying (s : State) (l : LineFrame) (arbitrated : Bool) (e : TxEntry) (hr : s.inReset = false)
    (hphase : s.liu.phase = .send) (hline : s.liu.line = some l) (he : s.txq.flying = some e) :
    exec (.clash arbitrated) s = .next ((s.setLiu { s.liu with
      phase := .receive
      line := some l.afterClash
      counted := if arbitrated = true then some e.identity else s.liu.counted
      rejections := clashCount s arbitrated e }).sendOver .rejected).countRejection := by
  simp only [exec, execClash, live_next _ s hr, hphase, if_true, State.clashSend, he, hline, Liu.countClash_eq]
  rfl

/-- R59, R72, R81: the identity of an entry of each kind. -/
theorem TxEntry.identity_cases (age : Nat) (flight : Option Flight) (args : Args) (bundle : List BundleEntry) (tag : Tag)
    (seg : Seg) :
    let identity := fun (key : EntryKey) (args : Args) =>
      TxEntry.identity { key := key, args := args, age := age, flight := flight }
    identity .claim (.claim false bundle tag) = { kind := .claim, turnout := none } ∧
      identity .claim (.claim true bundle tag) = { kind := .reclaim, turnout := none } ∧
      identity (.lie seg) args = { kind := .lie, turnout := some seg } ∧
      identity .beacon args = { kind := .beacon, turnout := none } ∧
      identity .release args = { kind := .release, turnout := none } ∧
      identity .lapse args = { kind := .lapse, turnout := none } ∧
      identity .clear args = { kind := .clear, turnout := none } ∧
      identity .guard args = { kind := .guard, turnout := none } :=
  ⟨rfl, rfl, rfl, rfl, rfl, rfl, rfl, rfl⟩

/-- Settles O11: a lost arbitration and a clash are outcomes that are not TAKEN (`State.notTaken_sendOver`, `State.notTaken_countRejection`). -/
theorem arbitrationLostAndClash : Obligations.ArbitrationLostAndClash := by
  refine ⟨fun args bundle tag seg age flight => TxEntry.identity_cases age flight args bundle tag seg, ?_⟩
  rintro s l lost clashed arbitrated hr hphase hline rfl rfl
  refine ⟨exec_arbitrationLost_of_classified s l hr hline, fun hnone => ⟨fun hrec => ?_,
    exec_clash_of_none s l arbitrated hr hphase hline hnone⟩, ?_⟩
  · rw [exec_arbitrationLost_of_unclassified s l hr hphase hline hrec, State.sendOver_setLiu_of_none s _ _ hnone]
  · rintro e f count counted he hf rfl rfl
    have hlost := s.notTaken_sendOver .notSent (by decide) e f
      { s.liu with phase := .receive, line := some { l with own := none } } he hf
    have hclash := s.notTaken_countRejection e f { s.liu with
      phase := .receive
      line := some l.afterClash
      counted := if arbitrated = true then some e.identity else s.liu.counted
      rejections := clashCount s arbitrated e } he hf
    obtain ⟨hback, hwayside, hcarriage⟩ := hlost
    refine ⟨fun hw => ⟨fun hrec => ?_, fun hbelow => ?_⟩, fun hlimit honline => ⟨_, exec_clash_of_flying s l arbitrated e hr
      hphase hline he, State.countRejection_sendOver_of_limit _ _ hlimit honline⟩,
      fun hw hrole => ⟨fun hrec => ?_, fun hbelow => ?_⟩, fun hw hrole hclaim => ⟨fun hrec => ?_, fun hbelow => ?_⟩⟩
    · rw [exec_arbitrationLost_of_unclassified s l hr hphase hline hrec, hback hw]
    · rw [exec_clash_of_flying s l arbitrated e hr hphase hline he, (hclash hbelow).1 hw]
      rfl
    · rw [exec_arbitrationLost_of_unclassified s l hr hphase hline hrec, hwayside hw hrole]
    · rw [exec_clash_of_flying s l arbitrated e hr hphase hline he, (hclash hbelow).2.1 hw hrole]
      rfl
    · rw [exec_arbitrationLost_of_unclassified s l hr hphase hline hrec, hcarriage hw hrole hclaim]
    · rw [exec_clash_of_flying s l arbitrated e hr hphase hline he, (hclash hbelow).2.2 hw hrole hclaim]
      rfl

/-! ## The verdict REJECTED (R54) -/

/-- R54: a short tally. -/
theorem State.quorate_eq_false_iff (s : State) (slots : StationSet) :
    s.quorate slots = false ↔ stationCount (slots &&& s.roster) < s.option (·.quorum) := by
  rw [State.quorate, decide_eq_false_iff_not, not_le, State.tallySet]

/-- R54: a dominant veto or a short tally rejects the frame. -/
theorem State.rejects_iff (s : State) (l : LineFrame) (slots : StationSet) :
    s.rejects l slots = true ↔
      l.veto = some true ∨ (l.veto = some false ∧ stationCount (slots &&& s.roster) < s.option (·.quorum)) := by
  simp only [State.rejects, Bool.or_eq_true, Bool.and_eq_true, beq_iff_eq, Bool.not_eq_true', s.quorate_eq_false_iff]

theorem exec_frameRejected_of_rejects (s : State) (l : LineFrame) (slots : StationSet) (hr : s.inReset = false)
    (hphase : s.liu.phase = .slots) (hline : s.liu.line = some l) (h : s.rejects l slots = true) :
    exec (.frameRejected slots) s = .next (s.rejectFrame l) := by
  simp only [exec, execFrameRejected, live_next _ s hr, hline, hphase, h, and_self, if_true]

/-- R54: at a station with nothing in flight. -/
theorem State.rejectFrame_of_none (s : State) (l : LineFrame) (h : l.own = none ∨ s.txq.flying = none) :
    s.rejectFrame l = (s.seekIdle 0).sightingLost := by
  unfold State.rejectFrame
  rcases h with h | h <;> simp [h]

/-- R54, R57, R59: at the sender. -/
theorem State.rejectFrame_of_flying (s : State) (l : LineFrame) (e : TxEntry) (hown : l.own.isSome)
    (he : s.txq.flying = some e) :
    s.rejectFrame l =
      if l.veto = some true then (((s.seekIdle 0).sightingLost).sendOver .rejected).countRejection
      else ((s.seekIdle 0).sightingLost).sendOver .rejected := by
  simp [State.rejectFrame, hown, he]

/-- R91: with no sighting there is none to lose. -/
theorem State.sightingLost_of_none (s : State) (h : s.mbu.sighting = none) : s.sightingLost = s := by
  simp only [State.sightingLost, h]

/-- R91: a sighting lost leaves the station state. -/
theorem State.sightingLost_station (s : State) : s.sightingLost.mbu.station = s.mbu.station := by
  unfold State.sightingLost
  split
  · rfl
  · dsimp only
    split <;> rfl

/-- R54, R59, R77, R79: a sender's frame rejected below the limit, with no sighting held. -/
theorem State.notTaken_rejectFrame (s : State) (l : LineFrame) (e : TxEntry) (f : Flight) (hown : l.own.isSome)
    (hsighting : s.mbu.sighting = none) (he : s.txq.flying = some e) (hf : e.flight = some f)
    (hbelow : l.veto = some true → s.liu.rejections < 15) :
    NotTaken s e f { s.liu with
      phase := .seek
      recessive := 0
      line := none
      rejections := if l.veto = some true then s.liu.rejections + 1 else s.liu.rejections } (s.rejectFrame l) := by
  have hseek : (s.seekIdle 0).sightingLost = s.setLiu (s.liu.seek 0) := (s.seekIdle 0).sightingLost_of_none hsighting
  rw [s.rejectFrame_of_flying l e hown he, hseek]
  by_cases hveto : l.veto = some true
  · rw [if_pos hveto, if_pos hveto]
    exact s.notTaken_countRejection e f (s.liu.seek 0) he hf (hbelow hveto)
  · rw [if_neg hveto, if_neg hveto]
    exact s.notTaken_sendOver .rejected (by decide) e f (s.liu.seek 0) he hf

/-- Settles O15: a receiver's frame (`State.rejectFrame_of_none`), a sender's below the limit (`State.notTaken_rejectFrame`) and at it. -/
theorem rejectedFrames : Obligations.RejectedFrames := by
  intro s l slots hr hphase hline hrejects
  rw [exec_frameRejected_of_rejects s l slots hr hphase hline ((s.rejects_iff l slots).mpr hrejects)]
  refine ⟨fun hnone => ?_, fun e f hown hsighting he hf hw hbelow => ?_,
    fun e f u hown hsighting he hf hw hbelow hu => ?_, fun e f hown he hf hveto hlimit honline => ⟨_, rfl, ?_⟩⟩
  · rw [s.rejectFrame_of_none l hnone]
    rfl
  · rw [(s.notTaken_rejectFrame l e f hown hsighting he hf hbelow).1 hw]
  · subst hu
    obtain ⟨-, hwayside, hcarriage⟩ := s.notTaken_rejectFrame l e f hown hsighting he hf hbelow
    exact ⟨fun hrole => congrArg _ (hwayside hw hrole), fun hrole hclaim => congrArg _ (hcarriage hw hrole hclaim)⟩
  · have hopr : (s.seekIdle 0).sightingLost.opr = s.opr := by simp
    have hliu : (s.seekIdle 0).sightingLost.liu = s.liu.seek 0 := by simp [State.seekIdle]
    have hstation : (s.seekIdle 0).sightingLost.mbu.station = s.mbu.station := (s.seekIdle 0).sightingLost_station
    rw [s.rejectFrame_of_flying l e hown he, if_pos hveto, ← hopr]
    exact State.countRejection_sendOver_of_limit _ .rejected (hliu.symm ▸ hlimit)
      ((State.of_station hstation).1.trans honline)

end Sys2Proof.Machine
end

section
/-! Bit stuffing (R44): what a receiver makes of stuffed bits, and where a stuff bit follows the last bit sent. -/
namespace Sys2Proof.Machine

open Sys2Proof

/-! ## One bit -/

/-- R44: the run of identical bits, one bit further. -/
def runAfter (run : Nat) (last b : Bool) : Nat := if b = last then run + 1 else 1

theorem runAfter_le (run : Nat) (last b : Bool) (h : run < 6) : runAfter run last b ≤ 6 := by
  unfold runAfter
  split <;> omega

/-- R44: the sixth bit of a run is followed by its opposite. -/
theorem stuffFrom_cons_of_full (run : Nat) (last b : Bool) (rest : List Bool) (h : runAfter run last b = 6) :
    stuffFrom run last (b :: rest) = b :: (!b) :: stuffFrom 1 (!b) rest := if_pos h

/-- R44: any other bit goes out alone. -/
theorem stuffFrom_cons_of_room (run : Nat) (last b : Bool) (rest : List Bool) (h : runAfter run last b ≠ 6) :
    stuffFrom run last (b :: rest) = b :: stuffFrom (runAfter run last b) b rest := if_neg h

/-- R44: a receiver keeps a bit that ends no run before it. -/
theorem unstuffFrom_cons (run : Nat) (last b : Bool) (rest : List Bool) (h : run < 6) :
    unstuffFrom run last (b :: rest) = (unstuffFrom (runAfter run last b) b rest).map (b :: ·) := if_neg (by omega)

/-- R44: a receiver drops the opposite bit after a run of six. -/
theorem unstuffFrom_stuffBit (b : Bool) (rest : List Bool) :
    unstuffFrom 6 b ((!b) :: rest) = unstuffFrom 1 (!b) rest := by
  cases b <;> rfl

theorem stuffFrom_ne_nil (run : Nat) (last b : Bool) (rest : List Bool) : stuffFrom run last (b :: rest) ≠ [] := by
  by_cases h : runAfter run last b = 6
  · simp [stuffFrom_cons_of_full run last b rest h]
  · simp [stuffFrom_cons_of_room run last b rest h]

/-! ## All bits -/

/-- R44: unstuffing undoes stuffing from any run short of six. -/
theorem unstuffFrom_stuffFrom (bits : List Bool) :
    ∀ (run : Nat) (last : Bool), run < 6 → unstuffFrom run last (stuffFrom run last bits) = some bits := by
  induction bits with
  | nil => intro run last _; rfl
  | cons b rest ih =>
    intro run last hrun
    by_cases hfull : runAfter run last b = 6
    · rw [stuffFrom_cons_of_full run last b rest hfull, unstuffFrom_cons run last b _ hrun, hfull, unstuffFrom_stuffBit,
        ih 1 (!b) (by omega)]
      rfl
    · have hroom : runAfter run last b < 6 := lt_of_le_of_ne (runAfter_le run last b hrun) hfull
      rw [stuffFrom_cons_of_room run last b rest hfull, unstuffFrom_cons run last b _ hrun, ih _ b hroom]
      rfl

/-- R44: where the stuffed bits end on a stuff bit, all bits are there before it; else all but the last one are. -/
theorem unstuffFrom_dropLast (bits : List Bool) :
    ∀ (run : Nat) (last : Bool), run < 6 → bits ≠ [] →
      unstuffFrom run last (stuffFrom run last bits).dropLast =
        some (if (stuffFrom run last bits).getLast? = bits.getLast? then bits.dropLast else bits) := by
  induction bits with
  | nil => intro run last _ hne; exact absurd rfl hne
  | cons b rest ih =>
    intro run last hrun _
    cases rest with
    | nil =>
      by_cases hfull : runAfter run last b = 6
      · rw [stuffFrom_cons_of_full run last b [] hfull]
        cases b <;> simp [stuffFrom, unstuffFrom_cons _ _ _ _ hrun, unstuffFrom]
      · rw [stuffFrom_cons_of_room run last b [] hfull]
        simp [stuffFrom, unstuffFrom]
    | cons c rest =>
      by_cases hfull : runAfter run last b = 6
      · have hne : stuffFrom 1 (!b) (c :: rest) ≠ [] := stuffFrom_ne_nil _ _ _ _
        rw [stuffFrom_cons_of_full run last b _ hfull, List.dropLast_cons_of_ne_nil (by simp), List.dropLast_cons_of_ne_nil hne,
          unstuffFrom_cons run last b _ hrun, hfull, unstuffFrom_stuffBit, ih 1 (!b) (by omega) (by simp),
          List.getLast?_cons_cons, List.getLast?_cons_of_ne_nil hne, List.getLast?_cons_cons]
        split <;> rfl
      · have hroom : runAfter run last b < 6 := lt_of_le_of_ne (runAfter_le run last b hrun) hfull
        have hne : stuffFrom (runAfter run last b) b (c :: rest) ≠ [] := stuffFrom_ne_nil _ _ _ _
        rw [stuffFrom_cons_of_room run last b _ hfull, List.dropLast_cons_of_ne_nil hne, unstuffFrom_cons run last b _ hrun,
          ih _ b hroom (by simp), List.getLast?_cons_of_ne_nil hne, List.getLast?_cons_cons]
        split <;> rfl

/-- Settles O54: `unstuffFrom_stuffFrom` from an empty run, and `unstuffFrom_dropLast` for the bits of a frame. -/
theorem stuffingIsUndone : Obligations.StuffingIsUndone := by
  refine ⟨fun bits => unstuffFrom_stuffFrom bits 0 true (by omega), fun f => ?_⟩
  have hne : frameBits f ≠ [] := List.cons_ne_nil _ _
  have hshort : (frameBits f).dropLast ≠ frameBits f := fun h => by
    have hlength := congrArg List.length h
    have hpos : 0 < (frameBits f).length := List.length_pos_iff.mpr hne
    rw [List.length_dropLast] at hlength
    omega
  have hbefore : unstuff (frameWire f).dropLast = _ := unstuffFrom_dropLast (frameBits f) 0 true (by omega) hne
  rw [hbefore, stuffBitFollows, bne_iff_ne, Option.some.injEq]
  change (frameWire f).getLast? ≠ _ ↔ (if (frameWire f).getLast? = _ then _ else _) = _
  by_cases hlast : (frameWire f).getLast? = (frameBits f).getLast?
  · simp [hlast, hshort]
  · simp [hlast]

end Sys2Proof.Machine
end

section
/-! Payloads and their bytes (R63 to R65): each decoder answers a content exactly where the bytes are that content's, within its counts. -/
namespace Sys2Proof.Machine

open Sys2Proof

/-! ## Small codes -/

theorem requiredOf_eq_some_iff (code : Nat) (r : Option Points) : requiredOf code = some r ↔ code = requiredCode r := by
  constructor
  · intro h
    unfold requiredOf at h
    split at h <;> cases h <;> rfl
  · rintro rfl
    rcases r with _ | _ | _ <;> rfl

theorem lieOf_eq_some_iff (code : Nat) (lie : Lie) : lieOf code = some lie ↔ code = lieCode lie := by
  constructor
  · intro h
    unfold lieOf at h
    split at h <;> cases h <;> rfl
  · rintro rfl
    cases lie <;> rfl

theorem causeOf_eq_some_iff (code : Nat) (cause : LieCause) : causeOf code = some cause ↔ code = causeCode cause := by
  constructor
  · intro h
    unfold causeOf at h
    split at h <;> cases h <;> rfl
  · rintro rfl
    cases cause <;> rfl

theorem kindOf_eq_some_iff (code : Nat) (k : Kind) : kindOf code = some k ↔ code = k.code := by
  constructor
  · intro h
    unfold kindOf at h
    split at h <;> cases h <;> rfl
  · rintro rfl
    cases k <;> rfl

theorem requiredCode_lt (r : Option Points) : requiredCode r < 4 := by rcases r with _ | _ | _ <;> decide

theorem lieCode_lt (lie : Lie) : lieCode lie < 8 := by cases lie <;> decide

theorem causeCode_lt (cause : LieCause) : causeCode cause < 16 := by cases cause <;> decide

/-! ## Single bytes -/

/-- A byte below 256 is told by its number. -/
theorem eq_byteOf_iff (b : Byte) (n : Nat) (h : n < 256) : b = byteOf n ↔ b.toNat = n := by
  rw [BitVec.toNat_eq, byteOf, BitVec.toNat_ofNat, Nat.mod_eq_of_lt h]

theorem byteOf_toNat (n : Nat) (h : n < 256) : (byteOf n).toNat = n := (eq_byteOf_iff _ n h).mp rfl

/-- R63: a segment byte has bits 7 and 6 zero. -/
theorem segOfByte_eq_some_iff (b : Byte) (seg : Seg) : segOfByte b = some seg ↔ b = segByte seg := by
  have hseg := seg.isLt
  rw [segByte, eq_byteOf_iff b _ (by omega)]
  unfold segOfByte
  split
  · simp [Fin.ext_iff]
  · simp; omega

/-- R63: a claim byte is a segment and a required lie code. -/
theorem bundleOfByte_eq_some_iff (b : Byte) (e : BundleEntry) : bundleOfByte b = some e ↔ b = claimByte e := by
  obtain ⟨seg, required⟩ := e
  have hseg := seg.isLt
  have hb := b.isLt
  have hcode := requiredCode_lt required
  simp only [bundleOfByte, claimByte, Option.map_eq_some_iff, requiredOf_eq_some_iff, BundleEntry.mk.injEq, Fin.ext_iff,
    Fin.val_ofNat, eq_byteOf_iff b (4 * seg.val + requiredCode required) (by omega)]
  constructor
  · rintro ⟨r, hr, hdiv, rfl⟩
    omega
  · intro h
    exact ⟨required, by omega, by omega, rfl⟩

/-- R63: the second byte of a lie entry. -/
theorem lieOf_toNat_eq_some_iff (b : Byte) (lie : Lie) : lieOf b.toNat = some lie ↔ b = byteOf (lieCode lie) := by
  rw [lieOf_eq_some_iff, eq_byteOf_iff b _ ((lieCode_lt lie).trans (by decide))]

/-- R63, R64: the flags byte of a beacon, its six low bits zero. -/
theorem eq_beaconFlags_iff (b : Byte) (announce : Bool) (role : Role) :
    b = beaconFlags announce role ↔ b.toNat % 64 = 0 ∧ b.msb = announce ∧ beaconRole b = role := by
  constructor
  · rintro rfl
    cases announce <;> cases role <;> decide
  · rintro ⟨hlow, rfl, rfl⟩
    revert b
    decide +kernel

/-! ## Lists of bytes -/

/-- A list decoded byte by byte. -/
theorem traverse_eq_some_iff {α β : Type} (f : α → Option β) (g : β → α) (hf : ∀ a b, f a = some b ↔ a = g b)
    (as : List α) (bs : List β) : traverse f as = some bs ↔ as = bs.map g := by
  induction as generalizing bs with
  | nil => cases bs <;> simp [traverse]
  | cons a rest ih =>
    have hcons : traverse f (a :: rest) = some bs ↔ ∃ b cs, f a = some b ∧ traverse f rest = some cs ∧ b :: cs = bs := by
      rw [traverse]
      cases f a <;> cases traverse f rest <;> simp
    rw [hcons]
    cases bs with
    | nil => simp
    | cons b cs =>
      simp only [hf, ih, List.map_cons, List.cons.injEq]
      constructor
      · rintro ⟨_, _, ha, hrest, rfl, rfl⟩
        exact ⟨ha, hrest⟩
      · rintro ⟨ha, hrest⟩
        exact ⟨b, cs, ha, hrest, rfl, rfl⟩

/-- R63: the lie entries of a beacon, two bytes each. -/
theorem lieEntriesOf_eq_some_iff :
    ∀ (bytes : List Byte) (es : List LieEntry), lieEntriesOf bytes = some es ↔ bytes = es.flatMap lieBytes
  | [], es => by cases es <;> simp [lieEntriesOf, lieBytes]
  | [a], es => by cases es <;> simp [lieEntriesOf, lieBytes]
  | a :: b :: rest, es => by
    have hcons : lieEntriesOf (a :: b :: rest) = some es ↔ ∃ seg lie fs, segOfByte a = some seg ∧
        lieOf b.toNat = some lie ∧ lieEntriesOf rest = some fs ∧ { seg := seg, lie := lie } :: fs = es := by
      rw [lieEntriesOf]
      cases segOfByte a <;> cases lieOf b.toNat <;> cases lieEntriesOf rest <;> simp
    rw [hcons]
    cases es with
    | nil => simp
    | cons e fs =>
      obtain ⟨seg, lie⟩ := e
      simp only [segOfByte_eq_some_iff, lieOf_toNat_eq_some_iff, lieEntriesOf_eq_some_iff rest, List.flatMap_cons, lieBytes, List.cons_append,
        List.nil_append, List.cons.injEq, LieEntry.mk.injEq]
      constructor
      · rintro ⟨_, _, _, ha, hb, hrest, ⟨rfl, rfl⟩, rfl⟩
        exact ⟨ha, hb, hrest⟩
      · rintro ⟨ha, hb, hrest⟩
        exact ⟨seg, lie, fs, ha, hb, hrest, ⟨rfl, rfl⟩, rfl⟩

theorem length_flatMap_lieBytes (es : List LieEntry) : (es.flatMap lieBytes).length = 2 * es.length := by
  induction es with
  | nil => rfl
  | cons e rest ih => simp [lieBytes, ih]; omega

/-! ## Sets as bytes -/

/-- Every byte but the last stands eight bits higher than before it. -/
theorem extractLsb'_append_high {n : Nat} (a : BitVec n) (b : Byte) (k : Nat) :
    (a ++ b).extractLsb' (k + 8) 8 = a.extractLsb' k 8 := by
  refine BitVec.eq_of_getLsbD_eq fun i hi => ?_
  have hhigh : ¬ k + 8 + i < 8 := by omega
  simp [BitVec.getLsbD_append, hhigh, show k + 8 + i - 8 = k + i by omega]

/-- R63: a station set is its four bytes. -/
theorem eq_stationSetBytes_iff (b0 b1 b2 b3 : Byte) (set : StationSet) :
    [b0, b1, b2, b3] = stationSetBytes set ↔ b0 ++ b1 ++ b2 ++ b3 = set := by
  constructor
  · intro h
    simp only [stationSetBytes, List.cons.injEq, and_true] at h
    obtain ⟨rfl, rfl, rfl, rfl⟩ := h
    refine BitVec.eq_of_getLsbD_eq fun i hi => ?_
    simp only [BitVec.getLsbD_append, BitVec.getLsbD_extractLsb']
    grind
  · rintro rfl
    simp only [stationSetBytes, extractLsb'_append_high _ _ 0, extractLsb'_append_high _ _ 8, extractLsb'_append_high _ _ 16,
      BitVec.extractLsb'_append_eq_right]
    simp

/-- R63: a blocked map is its eight bytes. -/
theorem eq_segSetBytes_iff (b0 b1 b2 b3 b4 b5 b6 b7 : Byte) (set : SegSet) :
    [b0, b1, b2, b3, b4, b5, b6, b7] = segSetBytes set ↔ b0 ++ b1 ++ b2 ++ b3 ++ b4 ++ b5 ++ b6 ++ b7 = set := by
  constructor
  · intro h
    simp only [segSetBytes, List.cons.injEq, and_true] at h
    obtain ⟨rfl, rfl, rfl, rfl, rfl, rfl, rfl, rfl⟩ := h
    refine BitVec.eq_of_getLsbD_eq fun i hi => ?_
    simp only [BitVec.getLsbD_append, BitVec.getLsbD_extractLsb']
    grind
  · rintro rfl
    simp only [segSetBytes, extractLsb'_append_high _ _ 0, extractLsb'_append_high _ _ 8, extractLsb'_append_high _ _ 16,
      extractLsb'_append_high _ _ 24, extractLsb'_append_high _ _ 32, extractLsb'_append_high _ _ 40,
      extractLsb'_append_high _ _ 48, BitVec.extractLsb'_append_eq_right]
    simp

end Sys2Proof.Machine
end

section
/-! The contents of payloads by kind (R63, R64), and the frames that carry them (R50, R51, R64 to R71). -/
namespace Sys2Proof.Machine

open Sys2Proof

/-! ## The layouts -/

/-- R63: a claim-type payload. -/
theorem bundleOf_eq_some_iff (bytes : List Byte) (tag : Tag) (bundle : List BundleEntry) :
    bundleOf bytes = some (tag, bundle) ↔
      bytes = byteOf (16 * tag.val + bundle.length) :: bundle.map claimByte ∧ 1 ≤ bundle.length ∧ bundle.length ≤ 6 := by
  have htag := tag.isLt
  constructor
  · intro h
    unfold bundleOf at h
    split at h
    · next head rest =>
      split at h
      · next hcounts =>
        obtain ⟨hlow, hhigh, hlength⟩ := hcounts
        obtain ⟨entries, hentries, heq⟩ := Option.map_eq_some_iff.mp h
        cases heq
        have hrest := (traverse_eq_some_iff _ _ bundleOfByte_eq_some_iff _ _).mp hentries
        have hb := head.isLt
        rw [hrest, List.length_map] at hlength
        simp only [Config.bundleMax] at hhigh
        refine ⟨?_, by omega, by omega⟩
        rw [hrest, List.cons.injEq, eq_byteOf_iff _ _ (by simp only [Fin.val_ofNat]; omega)]
        exact ⟨by simp only [Fin.val_ofNat]; omega, rfl⟩
      · cases h
    · cases h
  · rintro ⟨rfl, hlow, hhigh⟩
    have hhead := byteOf_toNat (16 * tag.val + bundle.length) (by omega)
    have hentries := (traverse_eq_some_iff _ _ bundleOfByte_eq_some_iff (bundle.map claimByte) bundle).mpr rfl
    have hmod : (16 * tag.val + bundle.length) % 16 = bundle.length := by omega
    have hdiv : Fin.ofNat 16 ((16 * tag.val + bundle.length) / 16) = tag := by
      rw [Fin.ext_iff, Fin.val_ofNat]
      omega
    rw [bundleOf, hhead, hmod, hdiv, hentries, if_pos ⟨hlow, hhigh, by simp⟩]
    rfl

/-- R63: a list of segments. -/
theorem segmentsOf_eq_some_iff (max : Nat) (hmax : max < 256) (bytes : List Byte) (segs : List Seg) :
    segmentsOf max bytes = some segs ↔
      bytes = byteOf segs.length :: segs.map segByte ∧ 1 ≤ segs.length ∧ segs.length ≤ max := by
  constructor
  · intro h
    unfold segmentsOf at h
    split at h
    · next count rest =>
      split at h
      · next hcounts =>
        obtain ⟨hlow, hhigh, hlength⟩ := hcounts
        have hrest := (traverse_eq_some_iff _ _ segOfByte_eq_some_iff _ _).mp h
        rw [hrest, List.length_map] at hlength
        refine ⟨?_, by omega, by omega⟩
        rw [hrest, List.cons.injEq, eq_byteOf_iff _ _ (by omega)]
        exact ⟨hlength.symm, rfl⟩
      · cases h
    · cases h
  · rintro ⟨rfl, hlow, hhigh⟩
    have hcount := byteOf_toNat segs.length (by omega)
    rw [segmentsOf, hcount, if_pos ⟨hlow, hhigh, by simp⟩]
    exact (traverse_eq_some_iff _ _ segOfByte_eq_some_iff _ _).mpr rfl

/-- R63: what follows the holdings of a beacon. -/
theorem beaconTail_eq_some_iff (bytes : List Byte) (blocked : SegSet) (lies : List LieEntry) :
    beaconTail bytes = some (blocked, lies) ↔
      bytes = segSetBytes blocked ++ [byteOf lies.length] ++ lies.flatMap lieBytes ∧ lies.length ≤ 4 := by
  constructor
  · intro h
    unfold beaconTail at h
    split at h
    · next b0 b1 b2 b3 b4 b5 b6 b7 count rest =>
      split at h
      · next hcounts =>
        obtain ⟨hfour, hlength⟩ := hcounts
        obtain ⟨entries, hentries, heq⟩ := Option.map_eq_some_iff.mp h
        cases heq
        have hrest := (lieEntriesOf_eq_some_iff _ _).mp hentries
        rw [hrest, length_flatMap_lieBytes] at hlength
        have hcount : count = byteOf lies.length := (eq_byteOf_iff _ _ (by omega)).mpr (by omega)
        rw [← (eq_segSetBytes_iff b0 b1 b2 b3 b4 b5 b6 b7 _).mpr rfl, hrest, hcount]
        exact ⟨rfl, by omega⟩
      · cases h
    · cases h
  · rintro ⟨rfl, hfour⟩
    have hset := (eq_segSetBytes_iff _ _ _ _ _ _ _ _ blocked).mp (rfl : [_, _, _, _, _, _, _, _] = segSetBytes blocked)
    have hcount := byteOf_toNat lies.length (by omega)
    have hlies := (lieEntriesOf_eq_some_iff (lies.flatMap lieBytes) lies).mpr rfl
    simp only [segSetBytes, List.cons_append, List.nil_append, beaconTail, hcount, hset, hlies]
    rw [if_pos ⟨hfour, length_flatMap_lieBytes lies⟩]
    rfl

/-- R63, R64: a beacon. -/
theorem beaconOf_eq_some_iff (bytes : List Byte) (announce : Bool) (role : Role) (held : List BundleEntry) (blocked : SegSet)
    (lies : List LieEntry) :
    beaconOf bytes = some (.beacon announce role held blocked lies) ↔
      bytes = payloadBytes (.beacon announce role held blocked lies) ∧ held.length ≤ 12 ∧ lies.length ≤ 4 := by
  constructor
  · intro h
    unfold beaconOf at h
    split at h
    · next flags count rest =>
      split at h
      · next hhead =>
        obtain ⟨hflags, htwelve⟩ := hhead
        split at h
        · next entries set entries' hheld htail =>
          split at h
          · next hlength =>
            cases h
            have hfront := (traverse_eq_some_iff _ _ bundleOfByte_eq_some_iff _ _).mp hheld
            obtain ⟨hback, hfour⟩ := (beaconTail_eq_some_iff _ _ _).mp htail
            have hcount : count = byteOf held.length := (eq_byteOf_iff _ _ (by omega)).mpr hlength.symm
            have hflag := (eq_beaconFlags_iff flags _ _).mpr ⟨hflags, rfl, rfl⟩
            refine ⟨?_, by omega, hfour⟩
            rw [← List.take_append_drop count.toNat rest, hfront, hback, hcount]
            simp only [payloadBytes, ← hflag, List.append_assoc, List.cons_append, List.nil_append]
          · cases h
        · cases h
      · cases h
    · cases h
  · rintro ⟨rfl, htwelve, hfour⟩
    obtain ⟨hflags, hannounce, hrole⟩ := (eq_beaconFlags_iff (beaconFlags announce role) announce role).mp rfl
    have hcount := byteOf_toNat held.length (by omega)
    have htail := (beaconTail_eq_some_iff _ blocked lies).mpr ⟨rfl, hfour⟩
    have hheld := (traverse_eq_some_iff _ _ bundleOfByte_eq_some_iff (held.map claimByte) held).mpr rfl
    have htake : (held.map claimByte).length = held.length := List.length_map _
    simp only [payloadBytes, List.append_assoc, List.cons_append, List.nil_append] at htail ⊢
    rw [beaconOf, hcount, List.take_left' htake, List.drop_left' htake, hheld, htail, hannounce, hrole,
      if_pos ⟨hflags, htwelve⟩]
    exact if_pos rfl

/-- R63: the first two bytes of a LIE. -/
theorem lieHeadOf_eq_some_iff (a b : Byte) (seg : Seg) (lie : Lie) (cause : LieCause) :
    lieHeadOf a b = some (seg, lie, cause) ↔ a = segByte seg ∧ b = byteOf (16 * lieCode lie + causeCode cause) := by
  have hlie := lieCode_lt lie
  have hcause := causeCode_lt cause
  have hparts : lieHeadOf a b = some (seg, lie, cause) ↔
      segOfByte a = some seg ∧ lieOf (b.toNat / 16) = some lie ∧ causeOf (b.toNat % 16) = some cause := by
    unfold lieHeadOf
    cases segOfByte a <;> cases lieOf (b.toNat / 16) <;> cases causeOf (b.toNat % 16) <;> simp
  rw [hparts, segOfByte_eq_some_iff, lieOf_eq_some_iff, causeOf_eq_some_iff, eq_byteOf_iff b _ (by omega)]
  constructor
  · rintro ⟨ha, hdiv, hmod⟩
    exact ⟨ha, by omega⟩
  · rintro ⟨ha, hb⟩
    exact ⟨ha, by omega, by omega⟩

/-- R63: a LIE of two bytes or four. -/
theorem liePayloadOf_eq_some_iff (bytes : List Byte) (seg : Seg) (lie : Lie) (cause : LieCause)
    (answer : Option (Station × Tag)) :
    liePayloadOf bytes = some (.lie seg lie cause answer) ↔ bytes = payloadBytes (.lie seg lie cause answer) := by
  constructor
  · intro h
    unfold liePayloadOf at h
    split at h
    · next a b =>
      obtain ⟨⟨_, _, _⟩, hhead, heq⟩ := Option.map_eq_some_iff.mp h
      cases heq
      obtain ⟨rfl, rfl⟩ := (lieHeadOf_eq_some_iff _ _ _ _ _).mp hhead
      rfl
    · next a b c d =>
      split at h
      · next hanswer =>
        obtain ⟨hc, hd⟩ := hanswer
        obtain ⟨⟨_, _, _⟩, hhead, heq⟩ := Option.map_eq_some_iff.mp h
        cases heq
        obtain ⟨rfl, rfl⟩ := (lieHeadOf_eq_some_iff _ _ _ _ _).mp hhead
        have hstation : c = byteOf (Fin.ofNat 32 c.toNat).val :=
          (eq_byteOf_iff _ _ (by simp only [Fin.val_ofNat]; omega)).mpr (by simp only [Fin.val_ofNat]; omega)
        have htag : d = byteOf (Fin.ofNat 16 d.toNat).val :=
          (eq_byteOf_iff _ _ (by simp only [Fin.val_ofNat]; omega)).mpr (by simp only [Fin.val_ofNat]; omega)
        simp only [payloadBytes, ← hstation, ← htag, List.cons_append, List.nil_append]
      · cases h
    · cases h
  · rintro rfl
    have hhead := (lieHeadOf_eq_some_iff _ _ seg lie cause).mpr ⟨rfl, rfl⟩
    rcases answer with _ | ⟨claimant, tag⟩
    · simp only [payloadBytes, List.append_nil, liePayloadOf, hhead, Option.map_some]
    · have hstation := claimant.isLt
      have htag := tag.isLt
      have hc := byteOf_toNat claimant.val (by omega)
      have hd := byteOf_toNat tag.val (by omega)
      have hclaimant : Fin.ofNat 32 claimant.val = claimant := Fin.ext (Nat.mod_eq_of_lt hstation)
      have htag' : Fin.ofNat 16 tag.val = tag := Fin.ext (Nat.mod_eq_of_lt htag)
      simp only [payloadBytes, List.cons_append, List.nil_append, liePayloadOf, hhead, hc, hd, hclaimant, htag',
        Option.map_some]
      exact if_pos ⟨hstation, htag⟩

/-! ## Every kind -/

/-- R64: the counts of a payload's lists. -/
def Payload.WithinCounts : Payload → Prop
  | .beacon _ _ held _ lies => held.length ≤ 12 ∧ lies.length ≤ 4
  | .claim _ bundle | .reclaim _ bundle => 1 ≤ bundle.length ∧ bundle.length ≤ 6
  | .release segs | .clear segs => 1 ≤ segs.length ∧ segs.length ≤ 12
  | .guard segs => 1 ≤ segs.length ∧ segs.length ≤ 4
  | .lapse _ | .lie _ _ _ _ => True

/-- R63: a payload of a kind has content of that kind. -/
theorem payloadOf_kind (k : Kind) (bytes : List Byte) (p : Payload) (h : payloadOf k bytes = some p) : p.kind = k := by
  cases k with
  | beacon =>
    change beaconOf bytes = some p at h
    unfold beaconOf at h
    repeat' split at h
    all_goals cases h
    rfl
  | claim | reclaim | release | clear | guard =>
    obtain ⟨x, -, rfl⟩ := Option.map_eq_some_iff.mp h
    rfl
  | lapse =>
    simp only [payloadOf] at h
    split at h
    · cases h; rfl
    · cases h
  | lie =>
    change liePayloadOf bytes = some p at h
    unfold liePayloadOf at h
    split at h
    · obtain ⟨x, -, rfl⟩ := Option.map_eq_some_iff.mp h
      rfl
    · split at h
      · obtain ⟨x, -, rfl⟩ := Option.map_eq_some_iff.mp h
        rfl
      · cases h
    · cases h

/-- R63, R64: the content of the bytes of a kind is exactly what has these bytes, within its counts. -/
theorem payloadOf_kind_eq_some_iff (bytes : List Byte) (p : Payload) :
    payloadOf p.kind bytes = some p ↔ bytes = payloadBytes p ∧ p.WithinCounts := by
  cases p with
  | beacon announce role held blocked lies => exact beaconOf_eq_some_iff bytes announce role held blocked lies
  | claim tag bundle | reclaim tag bundle =>
    refine Iff.trans ?_ (bundleOf_eq_some_iff bytes tag bundle)
    simp [Payload.kind, payloadOf, Option.map_eq_some_iff]
  | release segs | clear segs =>
    refine Iff.trans ?_ (segmentsOf_eq_some_iff 12 (by decide) bytes segs)
    simp [Payload.kind, payloadOf, Option.map_eq_some_iff, Config.listMax]
  | guard segs =>
    refine Iff.trans ?_ (segmentsOf_eq_some_iff 4 (by decide) bytes segs)
    simp [Payload.kind, payloadOf, Option.map_eq_some_iff, Config.ownedMax]
  | lie seg lie cause answer =>
    exact (liePayloadOf_eq_some_iff bytes seg lie cause answer).trans (and_iff_left trivial).symm
  | lapse set =>
    rw [Payload.WithinCounts, and_true, payloadBytes]
    constructor
    · intro h
      simp only [Payload.kind, payloadOf] at h
      split at h
      · next b0 b1 b2 b3 =>
        cases h
        exact (eq_stationSetBytes_iff b0 b1 b2 b3 _).mpr rfl
      · cases h
    · rintro rfl
      exact congrArg (fun v => some (Payload.lapse v)) ((eq_stationSetBytes_iff _ _ _ _ set).mp rfl)

end Sys2Proof.Machine
end

section
/-! Received frames (R50, R51, R58, R59, R64 to R71): which frames have a content, their class, and the end of the CRC. -/
namespace Sys2Proof.Machine

open Sys2Proof

/-! ## The checks of a payload (R65 to R71) -/

/-- R65 (6): a station from 1 to 30 of the roster. -/
theorem stationGoodIn_iff (roster : StationSet) (k : Station) : stationGoodIn roster k = true ↔ StationPasses roster k := by
  have hk := k.isLt
  have hzero : k ≠ 0 ↔ 1 ≤ k.val := by rw [ne_eq, Fin.ext_iff, Fin.val_zero]; omega
  have htop : k ≠ 31 ↔ k.val ≤ 30 := by rw [ne_eq, Fin.ext_iff, show (31 : Station).val = 31 from rfl]; omega
  simp only [stationGoodIn, StationPasses, Bool.and_eq_true, decide_eq_true_eq, hzero, htop, and_assoc]

/-- R65 (2, 5): a bundle entry or a holding. -/
theorem bundleEntryGood_iff (map : Option TrackMap) (e : BundleEntry) :
    bundleEntryGood map e = true ↔ EntryPasses map e := by
  simp only [bundleEntryGood, EntryPasses, Bool.and_eq_true, Bool.or_eq_true, Option.isNone_iff_eq_none,
    or_iff_not_imp_left, ne_eq]

/-- R66, R68, R70: segments that ascend. -/
theorem ascending_iff (segs : List Seg) : ascending segs = true ↔ segs.Pairwise (· < ·) := by
  rw [← List.isChain_iff_pairwise]
  induction segs with
  | nil => simp [ascending]
  | cons a rest ih =>
    cases rest with
    | nil => simp [ascending]
    | cons b rest => rw [ascending, Bool.and_eq_true, decide_eq_true_eq, ih, List.isChain_cons_cons]

/-- R5: a segment with an owner is a TURNOUT of the map. -/
theorem SegRec.defined_of_owner {r : SegRec} {k : Station} (h : r.owner = some k) : r.defined = true := by
  cases r with
  | turnout _ _ _ _ _ => rfl
  | absent | plain _ _ _ _ | pad _ _ => cases h

theorem mem_segList_iff (set : SegSet) (seg : Seg) : seg ∈ segList set ↔ segHas set seg = true := by
  simp [segList, allSegs]

/-- R66: the checks of a blocked map against the holdings. -/
theorem blockedGood_iff (map : Option TrackMap) (held : List BundleEntry) (blocked : SegSet) :
    ((segList blocked).all (fun seg => (mapRec map seg).defined) = true ∧ held.all (fun e => !segHas blocked e.seg) = true) ↔
      ∀ seg, segHas blocked seg = true → (mapRec map seg).defined = true ∧ ∀ e ∈ held, e.seg ≠ seg := by
  simp only [List.all_eq_true, mem_segList_iff, Bool.not_eq_true']
  constructor
  · rintro ⟨hdefined, hfree⟩ seg hseg
    refine ⟨hdefined seg hseg, fun e he heq => ?_⟩
    rw [← heq, hfree e he] at hseg
    cases hseg
  · intro h
    refine ⟨fun seg hseg => (h seg hseg).1, fun e he => ?_⟩
    cases hblocked : segHas blocked e.seg with
    | false => rfl
    | true => exact absurd rfl ((h e.seg hblocked).2 e he)

/-- R66: the checks of a beacon. -/
theorem beaconGood_iff (map : Option TrackMap) (roster : StationSet) (sender : Station) (announce : Bool) (role : Role)
    (held : List BundleEntry) (blocked : SegSet) (lies : List LieEntry) :
    (payloadGood map roster sender (.beacon announce role held blocked lies) = true ∧ held.length ≤ 12 ∧ lies.length ≤ 4) ↔
      PayloadPasses map roster sender (.beacon announce role held blocked lies) := by
  have hrole : (role == .wayside || lies.isEmpty) = true ↔ (role = .carriage → lies = []) := by
    cases role <;> simp
  have hblocked := blockedGood_iff map held blocked
  have hheld : held.all (bundleEntryGood map) = true ↔ ∀ e ∈ held, EntryPasses map e := by
    simp only [List.all_eq_true, bundleEntryGood_iff]
  have hlies : lies.all (fun e => (mapRec map e.seg).defined) = true ↔ ∀ e ∈ lies, (mapRec map e.seg).defined = true :=
    List.all_eq_true
  have hlimit : decide (held.length ≤ Config.holdLimit) = true ↔ held.length ≤ 12 := decide_eq_true_iff
  rw [PayloadPasses, payloadGood, ← hblocked, ← hheld, ← hlies, ← hrole, ← ascending_iff, ← distinct_nodup]
  simp only [Bool.and_eq_true, hlimit]
  constructor
  · rintro ⟨⟨⟨⟨⟨⟨⟨⟨hentries, hrise⟩, hdefined⟩, hfree⟩, hturnouts⟩, honce⟩, hwayside⟩, htwelve⟩, -, hfour⟩
    exact ⟨htwelve, hfour, hentries, hrise, ⟨hdefined, hfree⟩, hturnouts, honce, hwayside⟩
  · rintro ⟨htwelve, hfour, hentries, hrise, ⟨hdefined, hfree⟩, hturnouts, honce, hwayside⟩
    exact ⟨⟨⟨⟨⟨⟨⟨⟨hentries, hrise⟩, hdefined⟩, hfree⟩, hturnouts⟩, honce⟩, hwayside⟩, htwelve⟩, htwelve, hfour⟩

/-- R67: the checks of a bundle. -/
theorem bundleGood_iff (map : Option TrackMap) (bundle : List BundleEntry) :
    ((bundle.all (bundleEntryGood map) && distinct (bundle.map (·.seg)) && decide (bundle.length ≤ Config.bundleMax)) = true ∧
        1 ≤ bundle.length ∧ bundle.length ≤ 6) ↔
      1 ≤ bundle.length ∧ bundle.length ≤ 6 ∧ (∀ e ∈ bundle, EntryPasses map e) ∧ (bundle.map (·.seg)).Nodup := by
  have hlimit : decide (bundle.length ≤ Config.bundleMax) = true ↔ bundle.length ≤ 6 := decide_eq_true_iff
  simp only [Bool.and_eq_true, hlimit, List.all_eq_true, bundleEntryGood_iff, distinct_nodup]
  constructor
  · rintro ⟨⟨⟨hentries, honce⟩, -⟩, hone, hsix⟩
    exact ⟨hone, hsix, hentries, honce⟩
  · rintro ⟨hone, hsix, hentries, honce⟩
    exact ⟨⟨⟨hentries, honce⟩, hsix⟩, hone, hsix⟩

/-- R68: the checks of a list of segments. -/
theorem segmentsGood_iff (map : Option TrackMap) (segs : List Seg) :
    ((segs.all (fun seg => (mapRec map seg).defined) && ascending segs) = true ∧ 1 ≤ segs.length ∧ segs.length ≤ 12) ↔
      1 ≤ segs.length ∧ segs.length ≤ 12 ∧ (∀ seg ∈ segs, (mapRec map seg).defined = true) ∧ segs.Pairwise (· < ·) := by
  simp only [Bool.and_eq_true, List.all_eq_true, ascending_iff]
  exact and_rotate

/-- R64 to R71: a content within its counts passes the checks of its kind. -/
theorem payloadGood_iff (map : Option TrackMap) (roster : StationSet) (sender : Station) (p : Payload) :
    (payloadGood map roster sender p = true ∧ p.WithinCounts) ↔ PayloadPasses map roster sender p := by
  cases p with
  | beacon announce role held blocked lies => exact beaconGood_iff map roster sender announce role held blocked lies
  | claim tag bundle | reclaim tag bundle => exact bundleGood_iff map bundle
  | release segs | clear segs => exact segmentsGood_iff map segs
  | guard segs =>
    have howner : ∀ seg, ((mapRec map seg).defined && (mapRec map seg).owner == some sender) = true ↔
        (mapRec map seg).owner = some sender := fun seg => by
      rw [Bool.and_eq_true, beq_iff_eq]
      exact and_iff_right_of_imp SegRec.defined_of_owner
    simp only [payloadGood, Payload.WithinCounts, PayloadPasses, Bool.and_eq_true, List.all_eq_true, howner, ascending_iff]
    exact and_rotate
  | lapse set =>
    rw [Payload.WithinCounts, and_true, payloadGood, PayloadPasses, Bool.and_eq_true, bne_iff_ne, List.all_eq_true]
    refine and_congr_right fun _ => ⟨fun h k hk => ?_, fun h k _ => ?_⟩
    · have hgood := h k (List.mem_finRange k)
      rw [hk] at hgood
      exact (stationGoodIn_iff roster k).mp hgood
    · cases hk : stationHas set k with
      | false => rfl
      | true => exact (stationGoodIn_iff roster k).mpr (h k hk)
  | lie seg lie cause answer =>
    rcases answer with _ | ⟨claimant, tag⟩
    · simp [payloadGood, Payload.WithinCounts, PayloadPasses]
    · simp [payloadGood, Payload.WithinCounts, PayloadPasses, stationGoodIn_iff]

/-! ## The content of a frame (R50) -/

/-- R50 (1): the kind and the urgency tied to it. -/
theorem frameGoodKind_eq_some_iff (f : Frame) (k : Kind) :
    frameGoodKind f = some k ↔ f.kind.toNat = k.code ∧ f.urgency.toNat = k.urgency := by
  rw [← kindOf_eq_some_iff]
  unfold frameGoodKind
  cases kindOf f.kind.toNat with
  | none => simp
  | some j =>
    dsimp only
    split
    · next h =>
      rw [Option.some.injEq]
      exact ⟨fun hj => ⟨hj, hj ▸ h⟩, And.left⟩
    · next h =>
      refine ⟨fun hnone => (nomatch hnone), fun ⟨hj, hu⟩ => absurd hu ?_⟩
      rwa [← Option.some.inj hj]

/-- R50: a content is that of a good kind whose payload decodes to it and passes. -/
theorem frameContent_eq_some_iff_decode (map : Option TrackMap) (roster : StationSet) (f : Frame) (p : Payload) :
    frameContent map roster f = some p ↔
      frameCrcGood f = true ∧ StationPasses roster (frameStation f) ∧ f.payload.length = f.length.toNat ∧
        frameGoodKind f = some p.kind ∧ payloadOf p.kind f.payload = some p ∧
          payloadGood map roster (frameStation f) p = true := by
  cases hk : frameGoodKind f with
  | none => simp [frameContent, hk]
  | some k =>
    have hcontent : frameContent map roster f =
        if frameCrcGood f && stationGoodIn roster (frameStation f) && f.payload.length == f.length.toNat then
          (payloadOf k f.payload).filter (payloadGood map roster (frameStation f))
        else none := by simp only [frameContent, hk]
    simp only [hcontent, Option.ite_none_right_eq_some, Bool.and_eq_true, beq_iff_eq, stationGoodIn_iff,
      Option.filter_eq_some_iff, Option.some.injEq]
    constructor
    · rintro ⟨⟨⟨hcrc, hstation⟩, hlength⟩, hp, hgood⟩
      have hkind := payloadOf_kind k f.payload p hp
      exact ⟨hcrc, hstation, hlength, hkind.symm, hkind.symm ▸ hp, hgood⟩
    · rintro ⟨hcrc, hstation, hlength, rfl, hp, hgood⟩
      exact ⟨⟨⟨hcrc, hstation⟩, hlength⟩, hp, hgood⟩

/-- R50, R63 to R71: which frames have a content. -/
theorem frameContent_eq_some_iff (map : Option TrackMap) (roster : StationSet) (f : Frame) (p : Payload) :
    frameContent map roster f = some p ↔
      frameCrcGood f = true ∧ StationPasses roster (frameStation f) ∧ f.payload.length = f.length.toNat ∧
        f.kind.toNat = p.kind.code ∧ f.urgency.toNat = p.kind.urgency ∧ f.payload = payloadBytes p ∧
          PayloadPasses map roster (frameStation f) p := by
  rw [frameContent_eq_some_iff_decode, frameGoodKind_eq_some_iff, payloadOf_kind_eq_some_iff, ← payloadGood_iff]
  constructor
  · rintro ⟨hcrc, hstation, hlength, ⟨hkind, hurgency⟩, ⟨hbytes, hcounts⟩, hgood⟩
    exact ⟨hcrc, hstation, hlength, hkind, hurgency, hbytes, hgood, hcounts⟩
  · rintro ⟨hcrc, hstation, hlength, hkind, hurgency, hbytes, hgood, hcounts⟩
    exact ⟨hcrc, hstation, hlength, ⟨hkind, hurgency⟩, ⟨hbytes, hcounts⟩, hgood⟩

/-- R50 (6): a frame with a content has a good CRC. -/
theorem frameContent_of_badCrc (map : Option TrackMap) (roster : StationSet) (f : Frame) (h : frameCrcGood f = false) :
    frameContent map roster f = none := by
  simp [frameContent, h]

/-! ## The class of a frame (R51) -/

/-- R51: a good CRC and another fingerprint. -/
theorem State.classOf_of_otherMap (s : State) (f : Frame) (hcrc : frameCrcGood f = true)
    (hmap : f.fingerprint ≠ mapFingerprint s.opr.map) : s.classOf f = .foreign := by
  simp [State.classOf, hcrc, hmap]

/-- R51: under this map's fingerprint the content and, outside LISTEN, the digest decide. -/
theorem State.classOf_of_sameMap (s : State) (f : Frame) (hmap : f.fingerprint = mapFingerprint s.opr.map) :
    s.classOf f = if (frameContent s.opr.map s.roster f).isSome ∧ (s.mbu.station = .listen ∨ f.digest = digest s.ctu)
      then .good else .faulty := by
  simp [State.classOf, hmap]

/-- R51: a bad CRC. -/
theorem State.classOf_of_badCrc (s : State) (f : Frame) (hcrc : frameCrcGood f = false) : s.classOf f = .faulty := by
  simp [State.classOf, hcrc, frameContent_of_badCrc]

/-! ## The end of the CRC (R51, R58, R59, R61) -/

/-- R51: a frame is classified once. -/
theorem exec_frameClassify_of_received (s : State) (l : LineFrame) (f : Frame) (hr : s.inReset = false)
    (hline : s.liu.line = some l) (h : l.received.isSome) : exec (.frameClassify f) s = .next s := by
  obtain ⟨r, hrec⟩ := Option.isSome_iff_exists.mp h
  simp only [exec, execFrameClassify, live_next _ s hr, hline, hrec]
  split
  · next h => cases h
  · next h => cases h
  · rfl

theorem exec_frameClassify_of_receive (s : State) (l : LineFrame) (f : Frame) (hr : s.inReset = false)
    (hline : s.liu.line = some l) (hrec : l.received = none) (hphase : s.liu.phase = .receive) :
    exec (.frameClassify f) s = .next (s.classifyOther l f) := by
  simp only [exec, execFrameClassify, live_next _ s hr, hline, hrec, hphase]

theorem exec_frameClassify_of_send (s : State) (l : LineFrame) (own : OwnFrame) (f : Frame) (hr : s.inReset = false)
    (hline : s.liu.line = some l) (hrec : l.received = none) (hphase : s.liu.phase = .send) (hown : l.own = some own) :
    exec (.frameClassify f) s = .next (s.classifyOwn l own) := by
  simp only [exec, execFrameClassify, live_next _ s hr, hline, hrec, hphase, hown]

/-- R58, R91: what the class of a received frame changes. -/
theorem State.classifyOther_eq (s : State) (l : LineFrame) (f : Frame) :
    s.classifyOther l f =
      (s.setLiu { s.liu with
          phase := s.liu.phase.afterCrc f
          line := some { l with received := some (s.classify f) }
          vetoRun := if s.classOf f = .good ∧ l.participating = true then 0 else s.liu.vetoRun }).setMbu
        { s.mbu with sighting := if s.classOf f = .foreign then some (frameStation f) else s.mbu.sighting } := by
  have hcls : (s.classify f).cls = s.classOf f := rfl
  simp only [State.classifyOther, hcls]
  generalize s.classify f = r
  cases s.classOf f with
  | good => cases l.participating <;> rfl
  | foreign | faulty => rfl

/-- R59: the counted entry and its count at the end of the own CRC. -/
theorem State.classifyOwn_eq (s : State) (l : LineFrame) (own : OwnFrame) :
    s.classifyOwn l own = s.setLiu { s.liu with
      phase := s.liu.phase.afterCrc own.frame
      line := some { l with received := some own.received }
      counted := if l.participating = true then some own.identity else s.liu.counted
      rejections := if l.participating = true ∧ s.liu.counted ≠ some own.identity then 0 else s.liu.rejections } := by
  have hset : s.classifyOwn l own =
      s.setLiu (Liu.countClash { s.liu with
        phase := s.liu.phase.afterCrc own.frame
        line := some { l with received := some own.received } } l.participating own.identity) := by
    unfold State.classifyOwn
    cases l.participating <;> rfl
  rw [hset, Liu.countClash_eq]

/-- Settles O13: which frames have a content (`frameContent_eq_some_iff`), the end of the CRC at a receiver and at the sender, and the class. -/
theorem framesAreClassified : Obligations.FramesAreClassified := by
  refine ⟨frameContent_eq_some_iff, fun s l f => ⟨exec_frameClassify_of_received s l f, fun hr hline hrec hphase => ?_,
    fun own hr hline hrec hphase hown => ?_, s.classOf_of_otherMap f, fun hmap hcontent hdigest => ?_,
    s.classOf_of_badCrc f, fun hmap hcontent => ?_, fun hmap hlisten hdigest => ?_⟩⟩
  · rw [exec_frameClassify_of_receive s l f hr hline hrec hphase, s.classifyOther_eq, hphase]
    rfl
  · rw [exec_frameClassify_of_send s l own f hr hline hrec hphase hown, s.classifyOwn_eq, hphase]
    rfl
  · rw [s.classOf_of_sameMap f hmap, if_pos ⟨hcontent, hdigest⟩]
  · rw [s.classOf_of_sameMap f hmap, if_neg (by simp [hcontent])]
  · rw [s.classOf_of_sameMap f hmap, if_neg (by simp [hlisten, hdigest])]

end Sys2Proof.Machine
end

section
/-! The choice of the transmit queue (R75): the fold of `Txq.choice` ends with a waiting entry that no other waiting entry goes before. The payload of the
chosen entry (R76): what a frame takes of a set of segments, and what each kind states. -/
namespace Sys2Proof.Machine

open Sys2Proof

/-! ## Entries by urgency and age (R75) -/

/-- R75: the entry has the lower urgency value, or the same one and no higher age. -/
def TxEntry.NotAfter (a b : TxEntry) : Prop :=
  a.key.urgency < b.key.urgency ∨ (a.key.urgency = b.key.urgency ∧ a.age ≤ b.age)

theorem TxEntry.before_eq_true_iff (a b : TxEntry) :
    a.before b = true ↔ a.key.urgency < b.key.urgency ∨ (a.key.urgency = b.key.urgency ∧ a.age < b.age) := by
  simp [TxEntry.before]

theorem TxEntry.notAfter_of_before {a b : TxEntry} (h : a.before b = true) : a.NotAfter b :=
  ((a.before_eq_true_iff b).mp h).imp_right fun ⟨hurgency, hage⟩ => ⟨hurgency, hage.le⟩

theorem TxEntry.notAfter_of_not_before {a b : TxEntry} (h : ¬ b.before a = true) : a.NotAfter b := by
  rw [TxEntry.before_eq_true_iff] at h
  unfold TxEntry.NotAfter
  omega

theorem TxEntry.NotAfter.refl (a : TxEntry) : a.NotAfter a := Or.inr ⟨rfl, le_rfl⟩

theorem TxEntry.NotAfter.trans {a b c : TxEntry} (hab : a.NotAfter b) (hbc : b.NotAfter c) : a.NotAfter c := by
  unfold TxEntry.NotAfter at *
  omega

/-! ## The choice (R75) -/

/-- The step of the fold in `Txq.choice`: the next entry where it goes before the best so far. -/
def TxEntry.better (best : Option TxEntry) (e : TxEntry) : Option TxEntry :=
  match best with
  | none => some e
  | some b => if e.before b then some e else some b

theorem Txq.choice_eq_foldl (q : Txq) : q.choice = (q.entries.filter fun e => !e.inFlight).foldl TxEntry.better none := rfl

/-- Of two entries the better one is after neither. -/
theorem TxEntry.better_some (b e : TxEntry) : ∃ c, TxEntry.better (some b) e = some c ∧ c.NotAfter b ∧ c.NotAfter e := by
  by_cases h : e.before b = true
  · exact ⟨e, if_pos h, TxEntry.notAfter_of_before h, TxEntry.NotAfter.refl e⟩
  · exact ⟨b, if_neg h, TxEntry.NotAfter.refl b, TxEntry.notAfter_of_not_before h⟩

/-- Once there is a best entry the fold has one to its end, after none that it met. -/
theorem TxEntry.foldl_better_some (l : List TxEntry) (b : TxEntry) :
    ∃ a, l.foldl TxEntry.better (some b) = some a ∧ a.NotAfter b ∧ ∀ f ∈ l, a.NotAfter f := by
  induction l generalizing b with
  | nil => exact ⟨b, rfl, TxEntry.NotAfter.refl b, fun _ hmem => nomatch hmem⟩
  | cons e rest ih =>
    obtain ⟨c, hc, hcb, hce⟩ := TxEntry.better_some b e
    obtain ⟨a, ha, hac, hrest⟩ := ih c
    refine ⟨a, ?_, hac.trans hcb, List.forall_mem_cons.mpr ⟨hac.trans hce, hrest⟩⟩
    rw [List.foldl_cons, hc, ha]

/-- The fold from nothing: no choice from an empty list alone, and the choice is after no entry of the list. -/
theorem TxEntry.foldl_better_none (l : List TxEntry) :
    (l.foldl TxEntry.better none = none ↔ l = []) ∧
      ∀ a, l.foldl TxEntry.better none = some a → ∀ f ∈ l, a.NotAfter f := by
  cases l with
  | nil => exact ⟨⟨fun _ => rfl, fun _ => rfl⟩, fun _ _ _ hmem => nomatch hmem⟩
  | cons e rest =>
    obtain ⟨a, ha, hae, hrest⟩ := TxEntry.foldl_better_some rest e
    have hfold : (e :: rest).foldl TxEntry.better none = some a := ha
    rw [hfold]
    refine ⟨iff_of_false (Option.some_ne_none a) (List.cons_ne_nil e rest), fun a' heq => ?_⟩
    cases heq
    exact List.forall_mem_cons.mpr ⟨hae, hrest⟩

/-- R75: there is no choice exactly where every entry is in flight. -/
theorem Txq.choice_eq_none_iff (q : Txq) : q.choice = none ↔ ∀ e ∈ q.entries, e.inFlight = true := by
  rw [q.choice_eq_foldl, (TxEntry.foldl_better_none _).1, List.filter_eq_nil_iff]
  simp

/-- R75: the choice is after no entry that waits. -/
theorem Txq.choice_notAfter {q : Txq} {e f : TxEntry} (h : q.choice = some e) (hf : f ∈ q.entries)
    (hwaits : f.inFlight = false) : e.NotAfter f :=
  (TxEntry.foldl_better_none _).2 e h f (List.mem_filter.mpr ⟨hf, by rw [hwaits]; rfl⟩)

/-! ## The payload (R76) -/

/-- R76: the lowest segments of a set, as a set, list themselves. -/
theorem segList_segSetOf_take (set : SegSet) (n : Nat) :
    segList (segSetOf ((segList set).take n)) = (segList set).take n :=
  segList_sub _ ((List.take_sublist n _).trans List.filter_sublist)

/-- R76: a RELEASE names the twelve lowest segments of its set. -/
theorem State.payloadOf_release (s : State) (set : SegSet) (age : Nat) (flight : Option Flight) :
    s.payloadOf { key := .release, args := .segs set, age := age, flight := flight } = .release ((segList set).take 12) :=
  congrArg Payload.release (segList_segSetOf_take set 12)

/-- R76: so does a CLEAR. -/
theorem State.payloadOf_clear (s : State) (set : SegSet) (age : Nat) (flight : Option Flight) :
    s.payloadOf { key := .clear, args := .segs set, age := age, flight := flight } = .clear ((segList set).take 12) :=
  congrArg Payload.clear (segList_segSetOf_take set 12)

/-- R76: the kinds that carry their whole argument set. -/
theorem State.payloadOf_whole (s : State) (age : Nat) (flight : Option Flight) (set : SegSet) (stations : StationSet)
    (bundle : List BundleEntry) (tag : Tag) :
    s.payloadOf { key := .claim, args := .claim false bundle tag, age := age, flight := flight } = .claim tag bundle ∧
    s.payloadOf { key := .claim, args := .claim true bundle tag, age := age, flight := flight } = .reclaim tag bundle ∧
    s.payloadOf { key := .lapse, args := .stations stations, age := age, flight := flight } = .lapse stations ∧
    s.payloadOf { key := .guard, args := .segs set, age := age, flight := flight } = .guard (segList set) :=
  ⟨rfl, rfl, rfl, rfl⟩

/-- R76, R175: a LIE reads the lie from the record as it stands; an answer part with no tag is sent with tag 0. -/
theorem State.payloadOf_lie (s : State) (seg : Seg) (cause : LieCause) (answer : Option Answer) (age : Nat) (flight : Option Flight) :
    s.payloadOf { key := .lie seg, args := .lie cause answer, age := age, flight := flight } =
      .lie seg (s.toc.lieOf seg) cause (answer.map fun a => (a.claimant, a.tag.getD 0)) := rfl

/-- R76: a beacon is built from the tables alone. -/
theorem State.payloadOf_beacon (s : State) (age : Nat) (flight : Option Flight) :
    s.payloadOf { key := .beacon, args := .beacon, age := age, flight := flight } = s.beacon := rfl

/-- Settles O10: the choice by `Txq.mem_of_choice` and `Txq.choice_notAfter`, the payload by the lemma of each kind. -/
theorem choiceAndPayload : Obligations.ChoiceAndPayload := by
  refine ⟨fun q => ⟨q.choice_eq_none_iff, fun e he => ?_⟩, fun s age set stations bundle tag seg cause a => ?_⟩
  · obtain ⟨hmem, hwaits⟩ := Txq.mem_of_choice he
    exact ⟨hmem, hwaits, fun f hf hfree => Txq.choice_notAfter he hf hfree⟩
  · obtain ⟨hclaim, hreclaim, hlapse, hguard⟩ := s.payloadOf_whole age none set stations bundle tag
    exact ⟨s.payloadOf_beacon age none, s.payloadOf_release set age none, s.payloadOf_clear set age none, hclaim, hreclaim,
      hlapse, hguard, s.payloadOf_lie seg cause none age none, s.payloadOf_lie seg cause (some a) age none⟩

/-! ## Payloads and their bytes (R63, R64) -/

/-- Settles O53: `payloadOf_kind_eq_some_iff` at the payload's own bytes; the counts of the statement are `Payload.WithinCounts`, kind by kind. -/
theorem payloadsAreReadBack : Obligations.PayloadsAreReadBack := by
  intro p hcounts
  have hwithin : p.WithinCounts := by cases p <;> exact hcounts
  exact (payloadOf_kind_eq_some_iff (payloadBytes p) p).mpr ⟨rfl, hwithin⟩

end Sys2Proof.Machine
end

section
/-! What a listening station learns (R86, R87): of each claim by the three lists of a beacon, and every other kind as it is applied. -/
namespace Sys2Proof.Machine

open Sys2Proof

/-- R87: every kind but the beacon is learned as it is applied. -/
theorem learnPayload_of_notBeacon (map : Option TrackMap) (t : Table) (c : Station) (p : Payload) (h : p.kind ≠ .beacon) :
    learnPayload map t c p = applyPayload map t c p := by
  cases p with
  | beacon _ _ _ _ _ => exact absurd rfl h
  | claim _ _ | reclaim _ _ | release _ | lapse _ | clear _ | guard _ | lie _ _ _ _ => rfl

/-- R35, R86: an entry of a learned beacon: the lie list gives the reported lie, the holdings and the blocked map give the claim. -/
theorem learnBeacon_get (map : Option TrackMap) (t : Table) (c : Station) (held : List BundleEntry) (blocked : SegSet)
    (lies : List LieEntry) (i : Seg) :
    (learnBeacon map t c held blocked lies)[i].claim = learnClaim c held blocked i t[i].claim ∧
      (learnBeacon map t c held blocked lies)[i].reported = (beaconEntry map c lies i t[i]).reported := by
  rw [learnBeacon, tab_get]
  exact ⟨rfl, rfl⟩

/-- R86: a holding stands for its sender. -/
theorem learnClaim_of_mem (c : Station) (held : List BundleEntry) (blocked : SegSet) (e : BundleEntry) (old : Claim)
    (he : e ∈ held) (hd : (held.map (·.seg)).Nodup) : learnClaim c held blocked e.seg old = .held c e.required := by
  unfold learnClaim
  rw [find_of_distinct held (·.seg) hd e he]

/-- R86: the blocked map stands for BLOCKED; an entry BLOCKED before keeps its cause. -/
theorem learnClaim_of_blocked (c : Station) (held : List BundleEntry) (blocked : SegSet) (i : Seg) (e : Entry)
    (hi : i ∉ held.map (·.seg)) (hb : segHas blocked i = true) :
    learnClaim c held blocked i e.claim = if e.isBlocked then e.claim else .blocked .relistenLearned := by
  unfold learnClaim
  rw [find_none_of held (·.seg) i hi]
  obtain ⟨claim, reported⟩ := e
  cases claim <;> simp [hb, Entry.isBlocked]

/-- R86: of the entries that no list names, those of other stations alone stay. -/
theorem learnClaim_of_unlisted (c : Station) (held : List BundleEntry) (blocked : SegSet) (i : Seg) (e : Entry)
    (hi : i ∉ held.map (·.seg)) (hb : segHas blocked i = false) :
    learnClaim c held blocked i e.claim = if e.isBlocked = true ∨ e.holder = some c then .free else e.claim := by
  unfold learnClaim
  rw [find_none_of held (·.seg) i hi]
  obtain ⟨claim, reported⟩ := e
  cases claim <;> simp [hb, Entry.isBlocked, Entry.holder]

/-- Settles O26: `learnPayload_of_notBeacon`, and for a beacon `learnBeacon_get` with the claim rule and the lie rule of each list. -/
theorem beaconIsLearned : Obligations.BeaconIsLearned := by
  refine ⟨learnPayload_of_notBeacon, ?_⟩
  rintro map t _ c announce role held blocked lies i rfl
  have hget := learnBeacon_get map t c held blocked lies
  refine ⟨fun h => ?_, fun e he hd howner => ?_, fun e he hd => ?_, fun hi hb hfree => ?_, fun hi hb hblocked => ?_,
    fun hi hb h => ?_, fun hi hb hfree hother => ?_⟩
  · exact (hget i).2.trans (congrArg Entry.reported (beaconEntry_of_other map c lies i t[i] h))
  · exact (hget e.seg).2.trans (beaconEntry_reported map c lies e _ he hd howner)
  · exact (hget e.seg).1.trans (learnClaim_of_mem c held blocked e _ he hd)
  · exact (hget i).1.trans (by rw [learnClaim_of_blocked c held blocked i _ hi hb, hfree]; rfl)
  · exact (hget i).1.trans (by rw [learnClaim_of_blocked c held blocked i _ hi hb, if_pos hblocked])
  · exact (hget i).1.trans (by rw [learnClaim_of_unlisted c held blocked i _ hi hb, if_pos h])
  · exact (hget i).1.trans (by rw [learnClaim_of_unlisted c held blocked i _ hi hb, if_neg (not_or.mpr ⟨by rw [hfree]; decide, hother⟩)])

end Sys2Proof.Machine
end

section
/-! The timers of the membership unit (R85, R89, R90, R92, R100, R102, R104): the expiry of a remote lease, of the beacon timer, of the listen timer and
of the listen limit. -/
namespace Sys2Proof.Machine

open Sys2Proof

/-! ## Remote leases (R100, R102) -/

/-- R100: a peer that holds a segment, or that the map names as the owner of one. -/
theorem State.hasTrack_iff (s : State) (k : Station) :
    s.hasTrack k = true ↔ 0 < holdCount s.ctu k ∨ ∃ i, (s.seg i).owner = some k := by
  simp [State.hasTrack, allSegs]

/-- R98: the full time of a remote lease. -/
theorem State.remoteLease_eq (s : State) : s.remoteLease = 6 * s.bp := rfl

/-- R100: the expiry acts where the lease runs. -/
theorem exec_remoteLeaseExpiry_of_running (s : State) (k : Station) (hr : s.inReset = false)
    (hlease : s.mbu.peers[k].lease.isSome) :
    exec (.remoteLeaseExpiry k) s = .next (s.expirePeer k s.mbu.peers[k]) :=
  (live_next _ s hr).trans (by rw [if_pos hlease])

/-- R100, R102: a peer that is LAPSING already, or has track: LAPSING anew, with a LAPSE request, and a notice of the change. -/
theorem State.expirePeer_of_track (s : State) (k : Station) (p : Peer) (h : p.presence = .lapsing ∨ s.hasTrack k = true) :
    s.expirePeer k p =
      ((s.setPeer k { p with presence := .lapsing, lease := some (6 * s.bp) }).postIf (p.presence != .lapsing)
        (.peer k .lapsing)).requestLapse k := by
  simp only [State.expirePeer, State.expiredPeer, if_pos h, if_true, s.remoteLease_eq]

/-- R100: a peer without track is ABSENT. -/
theorem State.expirePeer_of_noTrack (s : State) (k : Station) (p : Peer) (hp : p.presence ≠ .lapsing)
    (h : ¬ s.hasTrack k = true) :
    s.expirePeer k p = (s.setPeer k { p with presence := .absent, lease := none }).post (.peer k .absent) := by
  simp [State.expirePeer, State.expiredPeer, hp, h, State.postIf]

/-! ## The beacon timer (R104) -/

/-- R72: a station online takes every request of a beacon. -/
theorem State.txRequest_beacon (s : State) (h : s.online = true) :
    s.txRequest .beacon .beacon = s.setTxq (s.txq.request .beacon .beacon) := by
  simp [State.txRequest, State.txAccepts, h]

/-- Settles O29: by the presence before the expiry, and at the beacon timer's expiry. -/
theorem remoteLeasesAndBeaconTimer : Obligations.RemoteLeasesAndBeaconTimer := by
  refine ⟨?_, fun s hr hbeacon honline => ?_⟩
  · rintro s k _ hr rfl hlease
    rw [exec_remoteLeaseExpiry_of_running s k hr hlease]
    refine ⟨fun hp htrack => ?_, fun hp => ?_, fun hp hcount howner => ?_⟩
    · rw [s.expirePeer_of_track k _ (Or.inr ((s.hasTrack_iff k).mpr htrack)), hp]
      rfl
    · have hsame : (s.mbu.peers[k].presence != .lapsing) = false := by rw [hp]; rfl
      rw [s.expirePeer_of_track k _ (Or.inl hp), hsame, ← hp]
      rfl
    · have hnone : ¬ s.hasTrack k = true := by
        rw [s.hasTrack_iff k]
        simp [hcount, howner]
      rw [s.expirePeer_of_noTrack k _ (by rw [hp]; decide) hnone]
      rfl
  · have hnext : exec .beaconTimerExpiry s = .next ((s.setMbu { s.mbu with beacon := some s.bp }).txRequest .beacon .beacon) :=
      (live_next _ s hr).trans (by rw [if_pos hbeacon])
    have honline' : (s.setMbu { s.mbu with beacon := some s.bp }).online = true := honline
    rw [hnext, State.txRequest_beacon _ honline']
    rfl

end Sys2Proof.Machine
end

section
/-! Sets of stations (R63) by their members, and the stations 1 to 30 of a set. -/
namespace Sys2Proof.Machine

open Sys2Proof

@[simp] theorem stationHas_or (a b : StationSet) (k : Station) : stationHas (a ||| b) k = (stationHas a k || stationHas b k) := by
  simp [stationHas]

@[simp] theorem stationHas_and (a b : StationSet) (k : Station) : stationHas (a &&& b) k = (stationHas a k && stationHas b k) := by
  simp [stationHas]

@[simp] theorem stationHas_diff (a b : StationSet) (k : Station) :
    stationHas (a &&& ~~~b) k = (stationHas a k && !stationHas b k) := by
  simp [stationHas, k.isLt]

@[simp] theorem stationHas_zero (k : Station) : stationHas 0#32 k = false := by simp [stationHas]

/-- R63: a set of stations is told by its members. -/
theorem stationSet_ext {a b : StationSet} (h : ∀ k : Station, stationHas a k = true ↔ stationHas b k = true) : a = b :=
  BitVec.eq_of_getMsbD_eq fun i hi => Bool.eq_iff_iff.mpr (h ⟨i, hi⟩)

/-- The stations are the numbers 1 to 30. -/
theorem mem_allStations_iff (k : Station) : k ∈ allStations ↔ 1 ≤ k.val ∧ k.val ≤ 30 := by simp [allStations]

theorem nodup_allStations : allStations.Nodup := (List.nodup_finRange 32).filter _

theorem mem_stationList_iff (set : StationSet) (k : Station) :
    k ∈ stationList set ↔ (1 ≤ k.val ∧ k.val ≤ 30) ∧ stationHas set k = true := by
  rw [stationList, List.mem_filter, mem_allStations_iff]

theorem nodup_stationList (set : StationSet) : (stationList set).Nodup := nodup_allStations.filter _

/-- R102: no request for one station is empty. -/
theorem stationOne_ne_zero (k : Station) : stationOne k ≠ 0#32 := fun h => by
  have hself := stationHas_one k k
  rw [h, stationHas_zero] at hself
  simp at hself

/-- R73: the stations of a list, joined to a set one by one. -/
def stationsJoined (set : StationSet) (l : List Station) : StationSet := l.foldl (fun a k => a ||| stationOne k) set

theorem stationHas_joined (set : StationSet) (l : List Station) (k : Station) :
    stationHas (stationsJoined set l) k = true ↔ stationHas set k = true ∨ k ∈ l := by
  induction l generalizing set with
  | nil => simp [stationsJoined]
  | cons a rest ih =>
    have hcons : stationsJoined set (a :: rest) = stationsJoined (set ||| stationOne a) rest := rfl
    rw [hcons, ih, stationHas_or, stationHas_one, Bool.or_eq_true, decide_eq_true_eq, List.mem_cons, or_assoc, @eq_comm _ a k]

end Sys2Proof.Machine
end

section
/-! The listen timer and the listen limit (R85, R89, R90), and the requests at the entry to ANNOUNCE (R92, R102). -/
namespace Sys2Proof.Machine

open Sys2Proof

/-! ## The LAPSE requests at the entry to ANNOUNCE (R92, R102) -/

/-- R72: a LAPSE entry that waits. -/
def lapseWaiting (set : StationSet) (age : Nat) : TxEntry := { key := .lapse, args := .stations set, age := age, flight := none }

/-- R102: a station online takes every LAPSE request. -/
theorem State.requestLapse_txq (s : State) (k : Station) (h : s.online = true) :
    (s.requestLapse k).txq = s.txq.request .lapse (.stations (stationOne k)) := by
  simp [State.requestLapse, State.txRequest_txq, State.txAccepts, h]

/-- R72: the first LAPSE request beside an entry of another kind. -/
theorem Txq.request_lapse_first (b : TxEntry) (k : Station) (n : Nat) (hb : b.key ≠ .lapse) :
    Txq.request { entries := [b], nextAge := n } .lapse (.stations (stationOne k)) =
      { entries := [b, lapseWaiting (stationOne k) n], nextAge := n + 1 } := by
  simp [Txq.request, Txq.find, Txq.create, Args.isEmpty, stationOne_ne_zero, hb, lapseWaiting]

/-- R73: a further one joins the entry. -/
theorem Txq.request_lapse_next (b : TxEntry) (k : Station) (set : StationSet) (age n : Nat) (hb : b.key ≠ .lapse) :
    Txq.request { entries := [b, lapseWaiting set age], nextAge := n } .lapse (.stations (stationOne k)) =
      { entries := [b, lapseWaiting (set ||| stationOne k) age], nextAge := n } := by
  simp [Txq.request, Txq.find, Txq.replace, Args.isEmpty, Args.join, stationOne_ne_zero, hb, lapseWaiting]

/-- R73, R102: the requests of a list of peers, with a LAPSE entry that waits. -/
theorem State.foldl_requestLapse_txq (l : List Station) (s : State) (b : TxEntry) (set : StationSet) (age n : Nat)
    (hb : b.key ≠ .lapse) (h : s.online = true) (hq : s.txq = { entries := [b, lapseWaiting set age], nextAge := n }) :
    (l.foldl State.requestLapse s).txq = { entries := [b, lapseWaiting (stationsJoined set l) age], nextAge := n } := by
  induction l generalizing s set with
  | nil => exact hq
  | cons k rest ih =>
    have hnext : (s.requestLapse k).txq = { entries := [b, lapseWaiting (set ||| stationOne k) age], nextAge := n } := by
      rw [s.requestLapse_txq k h, hq, Txq.request_lapse_next b k set age n hb]
    have honline : (s.requestLapse k).online = true := by simpa [State.online] using h
    exact ih _ _ honline hnext

/-- R92, R102: every peer that is LAPSING is in the one LAPSE entry that follows the beacon's. -/
theorem State.requestLapses_entries (s : State) (b : TxEntry) (n : Nat) (set : StationSet) (hb : b.key ≠ .lapse)
    (h : s.online = true) (hq : s.txq = { entries := [b], nextAge := n })
    (hset : ∀ k : Station, stationHas set k = true ↔ 1 ≤ k.val ∧ k.val ≤ 30 ∧ s.mbu.peers[k].presence = .lapsing) :
    s.requestLapses.txq.entries = b :: if set = 0 then [] else [lapseWaiting set n] := by
  have hmem : ∀ k : Station, k ∈ (allStations.filter fun k => s.mbu.peers[k].presence == .lapsing) ↔ stationHas set k = true := by
    intro k
    rw [List.mem_filter, mem_allStations_iff, hset, and_assoc, beq_iff_eq]
  unfold State.requestLapses
  generalize (allStations.filter fun k => s.mbu.peers[k].presence == .lapsing) = l at hmem
  cases l with
  | nil =>
    have hzero : set = 0 := stationSet_ext fun k => by simp [← hmem k]
    rw [if_pos hzero, List.foldl_nil, hq]
  | cons k rest =>
    have hne : set ≠ 0 := fun hzero => by simpa [hzero] using (hmem k).mp List.mem_cons_self
    have hjoined : stationsJoined (stationOne k) rest = set := stationSet_ext fun j => by
      rw [stationHas_joined, stationHas_one, decide_eq_true_eq, ← hmem j, List.mem_cons, eq_comm]
    have hfirst : (s.requestLapse k).txq = { entries := [b, lapseWaiting (stationOne k) n], nextAge := n + 1 } := by
      rw [s.requestLapse_txq k h, hq, Txq.request_lapse_first b k n hb]
    have honline : (s.requestLapse k).online = true := by simpa [State.online] using h
    rw [if_neg hne, List.foldl_cons, State.foldl_requestLapse_txq rest _ b _ n (n + 1) hb honline hfirst, hjoined]

/-! ## The entry to ANNOUNCE (R92) -/

/-- R84, R92: the LINK notice of the entry. -/
theorem State.announce_dpt (s : State) : s.announce.dpt = s.dpt.post (.link .announce .listenDone) := by
  simp [State.announce, State.enter]

/-- R92: the beacon is requested first, then the LAPSEs. -/
theorem State.announce_txq (s : State) :
    ∃ u : State, u.online = true ∧ u.txq = s.txq.request .beacon .beacon ∧ u.mbu.peers = s.mbu.peers ∧
      s.announce.txq = u.requestLapses.txq :=
  ⟨_, by simp [State.online, State.enter], by simp [State.txRequest_txq, State.txAccepts, State.online, State.enter],
    by simp [State.enter], rfl⟩

/-- R92: after the entry a beacon is queued. -/
theorem State.announce_find_beacon (s : State) : (s.announce.txq.find .beacon).isSome = true := by
  obtain ⟨u, -, hu, -, hq⟩ := s.announce_txq
  have hkeep : ∀ (l : List Station) (v : State), (v.txq.find .beacon).isSome = true →
      ((l.foldl State.requestLapse v).txq.find .beacon).isSome = true := by
    intro l
    induction l with
    | nil => exact fun _ hv => hv
    | cons k rest ih => exact fun v hv => ih _ (txRequest_find_keep v .lapse _ .beacon hv)
  rw [hq]
  exact hkeep _ u (hu ▸ request_find_self _ .beacon .beacon rfl)

/-- R72, R92, R102: into an empty queue go the beacon and, where a peer is LAPSING, one LAPSE of all of them. -/
theorem State.announce_entries (s : State) (set : StationSet) (hempty : s.txq.entries = [])
    (hset : ∀ k : Station, stationHas set k = true ↔ 1 ≤ k.val ∧ k.val ≤ 30 ∧ s.mbu.peers[k].presence = .lapsing) :
    s.announce.txq.entries = { key := .beacon, args := .beacon, age := s.txq.nextAge, flight := none } ::
      if set = 0 then [] else [lapseWaiting set (s.txq.nextAge + 1)] := by
  obtain ⟨u, honline, hu, hpeers, hq⟩ := s.announce_txq
  have hbeacon : s.txq.request .beacon .beacon = { entries :=
      [{ key := .beacon, args := .beacon, age := s.txq.nextAge, flight := none }], nextAge := s.txq.nextAge + 1 } := by
    simp [Txq.request, Txq.find, Txq.create, Args.isEmpty, hempty]
  rw [hq]
  exact u.requestLapses_entries _ _ set (by simp) honline (hu.trans hbeacon) (by simpa [hpeers] using hset)

/-! ## The expiries (R85, R89, R90) -/

/-- R85: the listen timer acts in LISTEN while it runs. -/
theorem exec_listenTimerExpiry_of_running (s : State) (w : Listen) (hr : s.inReset = false) (hs : s.mbu.station = .listen)
    (hw : s.mbu.listen = some w) (ht : w.timer.isSome) : exec .listenTimerExpiry s = .next s.listenServed :=
  (live_next _ s hr).trans (by rw [if_pos ⟨hs, by rw [hw]; exact ht⟩])

/-- R85: the state at the completion test of the expiry. -/
def State.served (s : State) (w : Listen) : State :=
  s.setMbu { s.mbu with listen := some { w with timer := none, served := true } }

/-- R85, R89: the expiry serves the station, which announces when nothing was heard or the last frame agreed. -/
theorem State.listenServed_eq (s : State) (w : Listen) (hw : s.mbu.listen = some w) :
    s.listenServed = if w.heard = false ∨ w.agreed = true then (s.served w).announce else s.served w := by
  simp [State.listenServed, State.setListen, State.completionTest, Listen.complete, State.served, hw]

/-- R90: the retry at the listen limit. -/
theorem exec_listenLimitExpiry_of_listening (s : State) (w : Listen) (hr : s.inReset = false) (hs : s.mbu.station = .listen)
    (hw : s.mbu.listen = some w) : exec .listenLimitExpiry s = .next s.retry :=
  (live_next _ s hr).trans (by rw [if_pos ⟨hs, by simp [hw]⟩])

/-- Settles O28: the expiry of the listen timer by the completion test (`State.listenServed_eq`), and the retry. -/
theorem listenTimers : Obligations.ListenTimers := by
  intro s w hr hs hw
  refine ⟨fun ht hheard hagreed => ?_, fun ht hpass => ⟨(s.served w).announce, ?_, ?_⟩, ?_⟩
  · rw [exec_listenTimerExpiry_of_running s w hr hs hw ht, s.listenServed_eq w hw, if_neg (by simp [hheard, hagreed])]
    rfl
  · rw [exec_listenTimerExpiry_of_running s w hr hs hw ht, s.listenServed_eq w hw, if_pos hpass]
  · exact ⟨announce_mbu _, State.announce_dpt _, State.announce_find_beacon _, by simp [State.served], by simp [State.served],
      by simp [State.served], fun set hempty hset => (s.served w).announce_entries set hempty hset⟩
  · rw [exec_listenLimitExpiry_of_listening s w hr hs hw]
    rfl

end Sys2Proof.Machine
end

section
/-! What each command may write (`mayChange`), command by command: the frame lemmas of the operations say what each leaves as it was. -/
namespace Sys2Proof.Machine

open Sys2Proof

/-! ## States that agree outside some blocks -/

theorem SameBut.refl (blocks : List Block) (s : State) : SameBut blocks s s := by
  simp [SameBut]

/-- A command that acts under a condition alone changes nothing without it. -/
theorem SameBut.ite {blocks : List Block} {s t : State} (p : Prop) [Decidable p] (h : SameBut blocks s t) :
    SameBut blocks s (if p then t else s) := by
  split
  · exact h
  · exact .refl blocks s

theorem SameBut.setDpt {blocks : List Block} {s t : State} (h : SameBut blocks s t) (hdpt : Block.dpt ∈ blocks) (d : Dpt) :
    SameBut blocks s (t.setDpt d) := by
  obtain ⟨hreset, hpending, hopr, hctu, hliu, htxq, hmbu, hrte, hmou, hpos, htoc, -⟩ := h
  exact ⟨hreset, hpending, hopr, hctu, hliu, htxq, hmbu, hrte, hmou, hpos, htoc, Or.inl hdpt⟩

/-- R181: a transaction changes what its command changes, and the drive port. -/
theorem SameBut.transact {blocks : List Block} {s : State} (hdpt : Block.dpt ∈ blocks) (tests : PortTests)
    (act : State → State × Reply) (h : SameBut blocks s (act s).1) : SameBut blocks s (State.transact tests act s) := by
  unfold State.transact
  split
  · exact (SameBut.refl blocks s).setDpt hdpt _
  · split
    · exact (SameBut.refl blocks s).setDpt hdpt _
    · exact h.setDpt hdpt _

/-- R182: a command changes what its effect changes. -/
theorem SameBut.judge {blocks : List Block} {s : State} (refusal : Option Reason) (effect : State → State)
    (h : SameBut blocks s (effect s)) : SameBut blocks s (s.judge refusal effect).1 := by
  unfold State.judge
  split
  · exact .refl blocks s
  · exact h

/-! ## The commands with tests of their own -/

theorem sameBut_readFailed (s : State) : SameBut [.opr, .mbu, .dpt] s s.readFailed := by
  unfold State.readFailed
  split <;> simp [SameBut]

theorem sameBut_takeNotice (s : State) : SameBut [.dpt] s s.takeNotice.1 := by
  unfold State.takeNotice
  split
  · exact .refl _ s
  · simp [SameBut]

theorem sameBut_loadAct (segs : List Seg) (s : State) : SameBut [.txq, .rte, .mou, .pos, .dpt] s (State.loadAct segs s).1 := by
  unfold State.loadAct
  split
  · exact .refl _ s
  · split
    · exact .refl _ s
    · simp [SameBut]

theorem sameBut_takeAct (serial : Byte) (s : State) : SameBut [.rte, .mou, .pos, .dpt] s (State.takeAct serial s).1 := by
  unfold State.takeAct
  split
  · exact .refl _ s
  · split
    · simp [SameBut]
    · exact .refl _ s
  · exact .refl _ s

theorem sameBut_resumeAct (s : State) : SameBut [.rte, .mou, .pos, .dpt] s s.resumeAct.1 := by
  unfold State.resumeAct
  split
  · exact .refl _ s
  · split
    · exact SameBut.judge _ _ (by simp [SameBut])
    · exact .refl _ s

theorem sameBut_throwAct (seg : Seg) (lie : Option Points) (s : State) :
    SameBut [.txq, .toc, .dpt] s (State.throwAct seg lie s).1 := by
  unfold State.throwAct
  split
  · exact SameBut.judge _ _ (by simp [SameBut])
  · exact .refl _ s

/-! ## Every command -/

/-- Reset is no stop: held and released it keeps the queue of what waits. -/
theorem exec_reset_pending (i : Instr) (s : State) (hi : i = .reset ∨ i = .resetRelease) :
    ∃ t, exec i s = .next t ∧ t.pending = s.pending := by
  rcases hi with rfl | rfl
  · exact ⟨_, rfl, rfl⟩
  · refine ⟨_, rfl, ?_⟩
    split <;> rfl

/-- Every other command is a meaning that acts outside reset, and that changes the blocks of its list alone. -/
theorem exec_sameBut (i : Instr) (s : State) (hreset : i ≠ .reset) (hrelease : i ≠ .resetRelease) :
    ∃ t, exec i s = .next t ∧ SameBut (mayChange i) s t := by
  have run : ∀ f : State → State, SameBut (mayChange i) s (f s) →
      ∃ t, live f s = .next t ∧ SameBut (mayChange i) s t := fun f hf =>
    ⟨_, rfl, by
      split
      · exact .refl _ s
      · exact hf⟩
  cases i with
  | reset => exact absurd rfl hreset
  | resetRelease => exact absurd rfl hrelease
  | storeRetryWait => exact run _ (.ite _ (sameBut_readFailed s))
  | clockStretchTimeout | optionReadEnd _ _ | detectorSettleEnd _ _ _ _ | settleTimeout _ _ _ _ | lineIdle
  | arbitrationLost | clash _ | stuffError _ | breakEnd | listenTimerExpiry | listenLimitExpiry | ownLeaseExpiry
  | remoteLeaseExpiry _ | beaconTimerExpiry | holdOffExpiry | keepTimerExpiry | staggerExpiry =>
    exact run _ (.ite _ (by simp [SameBut, mayChange]))
  | transmitStart =>
    simp only [exec, execTransmitStart]
    refine run _ ?_
    split
    · exact .ite _ (by simp [SameBut, mayChange])
    · exact .refl _ s
  | frameStartReceived =>
    simp only [exec, execFrameStartReceived]
    refine run _ ?_
    split
    · split <;> simp [SameBut, mayChange]
    · simp [SameBut, mayChange]
    all_goals exact .refl _ s
  | frameClassify _ =>
    simp only [exec, execFrameClassify]
    refine run _ ?_
    split
    · exact .refl _ s
    · split
      · simp [SameBut, mayChange]
      · simp [SameBut, mayChange]
      · exact .refl _ s
  | vetoSlotEnd _ | frameRejected _ =>
    simp only [exec, execVetoSlotEnd, execFrameRejected]
    refine run _ ?_
    split
    · exact .refl _ s
    · exact .ite _ (by simp [SameBut, mayChange])
  | driveFailure =>
    simp only [exec, execDriveFailure]
    refine run _ ?_
    split
    · exact .refl _ s
    · split
      · simp [SameBut, mayChange]
      · exact .ite _ (by simp [SameBut, mayChange])
  | beaconTaken _ | claimTaken _ | reclaimTaken _ | releaseTaken _ | lapseTaken _ | clearTaken _ | guardTaken _
  | lieTaken _ => exact run _ (by simp [SameBut, mayChange])
  | lieWaitExpiry _ =>
    simp only [exec, execLieWaitExpiry]
    refine run _ ?_
    split
    · simp [SameBut, mayChange]
    · exact .refl _ s
  | throwTimerExpiry _ =>
    simp only [exec, execThrowTimerExpiry]
    refine run _ ?_
    split
    · exact .ite _ (by simp [SameBut, mayChange])
    · exact .refl _ s
  | spdPeriodStart | odometerCount | tagReceived _ _ _ | filteredOdometerFall | lockLevelChange _ _ _
  | occupancyChange _ _ | busyTransaction =>
    simp only [exec, execSpdPeriodStart, execOdometerCount, execTagReceived, execFilteredOdometerFall, execLockLevelChange,
      execOccupancyChange, execBusyTransaction]
    exact run _ (by simp [SameBut, mayChange])
  | invalidCommand _ =>
    simp only [exec, execInvalidCommand]
    refine run _ ?_
    split
    · exact .refl _ s
    · exact .transact (by simp [mayChange]) _ _ (.refl _ s)
  | status | readEntry _ | readPeer _ => exact run _ (.transact (by simp [mayChange]) _ _ (.refl _ s))
  | notice => exact run _ (.transact (by simp [mayChange]) _ _ (sameBut_takeNotice s))
  | clearCommand _ | locate _ _ _ | cancel | docked | keep | possess _ | unpossess =>
    exact run _ (.transact (by simp [mayChange]) _ _ (.judge _ _ (by simp [SameBut, mayChange])))
  | loadRoute _ => exact run _ (.transact (by simp [mayChange]) _ _ (sameBut_loadAct _ s))
  | take _ => exact run _ (.transact (by simp [mayChange]) _ _ (sameBut_takeAct _ s))
  | resume => exact run _ (.transact (by simp [mayChange]) _ _ (sameBut_resumeAct s))
  | throw _ _ => exact run _ (.transact (by simp [mayChange]) _ _ (sameBut_throwAct _ _ s))

/-- Settles O3: reset keeps the queue of what waits (`exec_reset_pending`), and `exec_sameBut` takes every other command. -/
theorem commandsKeepOtherBlocks : Obligations.CommandsKeepOtherBlocks := fun i s =>
  ⟨exec_reset_pending i s, exec_sameBut i s⟩

end Sys2Proof.Machine
end

section
/-! How a foreign sighting ends (R91). -/
namespace Sys2Proof.Machine

open Sys2Proof

theorem State.sightingLost_of_last (s : State) (k : Station) (h : s.mbu.sighting = some k) (hk : k = s.mbu.lastConflict) :
    s.sightingLost = s.setMbu { s.mbu with sighting := none } := by
  unfold State.sightingLost
  simp only [h, if_pos hk]

theorem State.sightingLost_of_new (s : State) (k : Station) (h : s.mbu.sighting = some k) (hk : k ≠ s.mbu.lastConflict) :
    s.sightingLost = (s.setMbu { s.mbu with sighting := none, lastConflict := k }).post (.mapConflict k) := by
  unfold State.sightingLost
  simp only [h, if_neg hk]
  rfl

theorem State.sightingTaken_of_none (s : State) (before : Vector Peer 32) (h : s.mbu.sighting = none) :
    s.sightingTaken before = s := by
  unfold State.sightingTaken
  rw [h]

theorem State.sightingTaken_of_other (s : State) (before : Vector Peer 32) (k : Station) (h : s.mbu.sighting = some k)
    (hk : ¬(1 ≤ k.val ∧ k.val ≤ 30)) : s.sightingTaken before = s.setMbu { s.mbu with sighting := none } := by
  unfold State.sightingTaken
  simp only [h, if_neg hk]

theorem State.sightingTaken_of_marked (s : State) (before : Vector Peer 32) (k : Station) (h : s.mbu.sighting = some k)
    (hk : 1 ≤ k.val ∧ k.val ≤ 30) (hmark : before[k].foreign = true) :
    s.sightingTaken before = s.setMbu { s.mbu with
      sighting := none, peers := tabSet s.mbu.peers k { s.mbu.peers[k] with foreign := true } } := by
  unfold State.sightingTaken
  simp only [h, if_pos hk, hmark, if_true]
  rfl

theorem State.sightingTaken_of_unmarked (s : State) (before : Vector Peer 32) (k : Station) (h : s.mbu.sighting = some k)
    (hk : 1 ≤ k.val ∧ k.val ≤ 30) (hmark : before[k].foreign = false) :
    s.sightingTaken before = (s.setMbu { s.mbu with
      sighting := none
      lastConflict := k
      peers := tabSet s.mbu.peers k { s.mbu.peers[k] with foreign := true } }).post (.mapConflict k) := by
  unfold State.sightingTaken
  simp only [h, if_pos hk, hmark, Bool.false_eq_true, if_false]
  rfl

/-- A sighting ends the same whatever the line unit holds. -/
theorem State.sightingLost_setLiu (s : State) (l : Liu) : (s.setLiu l).sightingLost = s.sightingLost.setLiu l := by
  cases hs : s.mbu.sighting with
  | none => rw [s.sightingLost_of_none hs, (s.setLiu l).sightingLost_of_none hs]
  | some k =>
    by_cases hk : k = s.mbu.lastConflict
    · rw [s.sightingLost_of_last k hs hk, (s.setLiu l).sightingLost_of_last k hs hk]
      rfl
    · rw [s.sightingLost_of_new k hs hk, (s.setLiu l).sightingLost_of_new k hs hk]
      rfl

end Sys2Proof.Machine
end

section
/-! A relisten (R55, R58, R59, R94 to R96): the notices it posts and what it leaves of a turnout controller, the state that each of its causes meets, and the
state of the station after it. -/
namespace Sys2Proof.Machine

open Sys2Proof

/-! ## What the told block does (R105, R126, R129, R177) -/

/-- R126: a relisten of the route leaves the head step's number. -/
theorem State.headNum_relisten (s : State) : (s.setRte s.rte.relisten).headNum = s.headNum := by
  have hnum : ∀ route : List Step, (stepOn (route.map Step.relisten) s.head).map (·.num) = (stepOn route s.head).map (·.num) := by
    intro route
    simp only [stepOn, List.find?_map, Option.map_map]
    rfl
  exact hnum s.rte.route

/-- R136: a MOVING engine posts HALTED. -/
theorem State.routeRelisten_dpt (s : State) :
    s.routeRelisten.dpt =
      if s.rte.state = .moving then s.dpt.post (.halted .relisten (s.headNum.getD 255)) else s.dpt := by
  unfold State.routeRelisten
  cases hstate : s.rte.state with
  | moving =>
    have hmoving : ((s.setRte s.rte.relisten).assertStop .relisten).rte.state = .moving := hstate
    rw [if_pos rfl, ← s.headNum_relisten]
    exact (halt_post _ .relisten).trans (if_pos hmoving)
  | unplaced | placing | parked | routed | halted => simp

/-- R129: a wayside that held segments posts POSSESSION ENDED. -/
theorem State.turnoutRelisten_dpt (s : State) (held : Nat) :
    (s.turnoutRelisten held).dpt = if 0 < held then s.dpt.post (.possessionOver .ended held) else s.dpt := by
  unfold State.turnoutRelisten State.postIf
  by_cases h : 0 < held <;> simp [h]

/-- R177: the controller is emptied. -/
theorem State.turnoutRelisten_toc (s : State) (held : Nat) : (s.turnoutRelisten held).toc = s.toc.emptied := by
  simp [State.turnoutRelisten]

/-! ## The relisten (R96) -/

/-- R96: the state in which the blocks are told of the relisten. -/
def State.relistened (s : State) (cause : ChangeCause) : State :=
  let s1 := (s.enter .listen cause).setCtu (clearTable s.opr.map)
  let s2 := s1.setMbu s1.relistenMbu
  (s2.setTxq s2.txq.emptied).setLiu s2.liu.clearCounts.dropOut

theorem State.relisten_eq (s : State) (cause : ChangeCause) (honline : s.online = true) :
    s.relisten cause = (s.relistened cause).tellRelisten (holdCount s.ctu s.me) := if_pos honline

/-- R96, R129, R136: LINK, and the notice of the block that is told. -/
theorem State.relisten_dpt (s : State) (cause : ChangeCause) (honline : s.online = true) :
    (s.relisten cause).dpt =
      if s.role = some .wayside ∧ 0 < holdCount s.ctu s.me then
        (s.dpt.post (.link .listen cause)).post (.possessionOver .ended (holdCount s.ctu s.me))
      else if s.role = some .carriage ∧ s.rte.state = .moving then
        (s.dpt.post (.link .listen cause)).post (.halted .relisten (s.headNum.getD 255))
      else s.dpt.post (.link .listen cause) := by
  have hrole : (s.relistened cause).role = s.role := rfl
  rw [s.relisten_eq cause honline, State.tellRelisten, hrole]
  cases hr : s.role with
  | none => simp [State.relistened, State.enter]
  | some role =>
    cases role with
    | carriage =>
      simp only [reduceCtorEq, Option.some.injEq, false_and, if_false, true_and]
      exact State.routeRelisten_dpt _
    | wayside =>
      simp only [reduceCtorEq, Option.some.injEq, false_and, if_false, true_and]
      exact State.turnoutRelisten_dpt _ _

/-- R177: at a wayside the controller is emptied, and the carriage's blocks are left. -/
theorem State.relisten_wayside (s : State) (cause : ChangeCause) (honline : s.online = true) (hrole : s.role = some .wayside) :
    (s.relisten cause).toc = s.toc.emptied ∧ (s.relisten cause).rte = s.rte ∧ (s.relisten cause).mou = s.mou ∧
      (s.relisten cause).pos = s.pos := by
  have hrole' : (s.relistened cause).role = some .wayside := hrole
  rw [s.relisten_eq cause honline, State.tellRelisten, hrole']
  refine ⟨State.turnoutRelisten_toc _ _, ?_⟩
  simp only [State.turnoutRelisten, State.postIf_frame, State.setToc_rte, State.setToc_mou, State.setToc_pos]
  exact ⟨rfl, rfl, rfl⟩

/-! ## The states that relistens meet -/

/-- The state `v` that relistens after an event at `s`, against the state `u` that the statements name: of the line unit nothing is said, nor of the
queue's entries; at a wayside the carriage's blocks are those before the event, and the controller is once it is emptied. -/
structure MeetsRelisten (s u v : State) : Prop where
  opr : v.opr = s.opr
  ctu : v.ctu = s.ctu
  station : v.mbu.station = s.mbu.station
  joinCount : v.mbu.joinCount = s.mbu.joinCount
  peers : v.mbu.peers = s.mbu.peers
  nextAge : v.txq.nextAge = u.txq.nextAge
  dpt : v.dpt = u.dpt
  engine : v.rte.state = u.rte.state
  headNum : v.headNum = u.headNum
  wayside : s.role = some .wayside → v.toc.emptied = s.toc.emptied ∧ v.rte = s.rte ∧ v.mou = s.mou ∧ v.pos = s.pos

/-- The line unit does not matter. -/
theorem MeetsRelisten.setLiu {s u v : State} (h : MeetsRelisten s u v) (l : Liu) : MeetsRelisten s u (v.setLiu l) :=
  ⟨h.opr, h.ctu, h.station, h.joinCount, h.peers, h.nextAge, h.dpt, h.engine, h.headNum, h.wayside⟩

theorem MeetsRelisten.setLiu_iff {s u v : State} {l : Liu} : MeetsRelisten s (u.setLiu l) v ↔ MeetsRelisten s u v :=
  ⟨fun h => ⟨h.opr, h.ctu, h.station, h.joinCount, h.peers, h.nextAge, h.dpt, h.engine, h.headNum, h.wayside⟩,
    fun h => ⟨h.opr, h.ctu, h.station, h.joinCount, h.peers, h.nextAge, h.dpt, h.engine, h.headNum, h.wayside⟩⟩

theorem MeetsRelisten.refl (s : State) : MeetsRelisten s s s :=
  ⟨rfl, rfl, rfl, rfl, rfl, rfl, rfl, rfl, rfl, fun _ => ⟨rfl, rfl, rfl, rfl⟩⟩

/-- R91: the sighting of a spoiled or rejected frame ends before the relisten. -/
theorem MeetsRelisten.sightingLost (s : State) : MeetsRelisten s s.sightingLost s.sightingLost := by
  have hpeers : s.sightingLost.mbu.joinCount = s.mbu.joinCount ∧ s.sightingLost.mbu.peers = s.mbu.peers := by
    unfold State.sightingLost
    split
    · exact ⟨rfl, rfl⟩
    · dsimp only
      split <;> exact ⟨rfl, rfl⟩
  exact ⟨by simp, by simp, s.sightingLost_station, hpeers.1, hpeers.2, rfl, rfl, rfl, rfl, fun _ => by simp⟩

/-- The planner that tests after a withdrawn claim does not read the line unit. -/
theorem discardClaim_setLiu (u : State) (l : Liu) (e : TxEntry) (f : Flight) :
    discardClaim (u.setLiu l) e f = (discardClaim u e f).setLiu l := by
  have hrole : (u.setLiu l).role = u.role := rfl
  unfold discardClaim
  rw [hrole]
  by_cases h : f.withdrawn = true ∧ u.role = some .carriage
  · rw [if_pos h, if_pos h, ← State.settle_setLiu]; rfl
  · rw [if_neg h, if_neg h]

/-- R77, R79, R118: the outcome REJECTED before the relisten. At a carriage a withdrawn claim is over and the planner tests; else nothing is left that the
relisten does not clear. -/
theorem MeetsRelisten.sendOver {s u : State} (h : MeetsRelisten s u u) (e : TxEntry) (f : Flight) (he : u.txq.flying = some e)
    (hf : e.flight = some f) : MeetsRelisten s (discardClaim u e f) (u.sendOver .rejected) := by
  have hrole : u.role = s.role := (State.of_opr h.opr).1
  by_cases hw : f.withdrawn = true
  · have hover := u.sendOver_of_withdrawn .rejected (by decide) e f he hf hw
    have hqrole : (u.setTxq (u.txq.replace e.key none)).role = s.role := hrole
    rw [State.tellRequester, hqrole] at hover
    by_cases hcarriage : s.role = some .carriage
    · have hclaim : (u.setTxq (u.txq.replace e.key none)).claimOutcome (some .discarded) none =
          (u.setTxq (u.txq.replace e.key none)).setRte { u.rte with claim := none } := by
        cases hc : u.rte.claim with
        | none =>
          have hsame : { u.rte with claim := none } = u.rte := by rw [← hc]
          rw [hsame]
          simp only [State.claimOutcome, State.setTxq_rte, hc]
          rfl
        | some c => simp only [State.claimOutcome, State.setTxq_rte, hc]
      have hdiscard : discardClaim u e f =
          ((u.setTxq (u.txq.replace e.key none)).setRte { u.rte with claim := none }).settle :=
        if_pos ⟨hw, hrole.trans hcarriage⟩
      have hsame : u.sendOver .rejected = discardClaim u e f := by
        rw [hover, hcarriage, hdiscard, ← hclaim]
        rfl
      have hmbu : (discardClaim u e f).mbu = u.mbu := by simp [hdiscard]
      rw [hsame]
      exact ⟨by simpa [hdiscard] using h.opr, by simpa [hdiscard] using h.ctu, by rw [hmbu, h.station], by rw [hmbu, h.joinCount],
        by rw [hmbu, h.peers], rfl, rfl, rfl, rfl, fun hwayside => nomatch hwayside.symm.trans hcarriage⟩
    · have hdiscard : discardClaim u e f = u := if_neg fun hboth => hcarriage (hrole ▸ hboth.2)
      rw [hdiscard, hover]
      cases hr : s.role with
      | none =>
        exact ⟨h.opr, h.ctu, h.station, h.joinCount, h.peers, rfl, rfl, rfl, rfl, fun hwayside => nomatch hwayside.symm.trans hr⟩
      | some role =>
        cases role with
        | carriage => exact absurd hr hcarriage
        | wayside => exact ⟨h.opr, h.ctu, h.station, h.joinCount, h.peers, rfl, rfl, rfl, rfl, h.wayside⟩
  · have hback := sendOver_keep u .rejected (Or.inl rfl) e f he hf (by simpa using hw)
    have hdiscard : discardClaim u e f = u := if_neg fun hboth => hw hboth.1
    rw [hdiscard, hback]
    exact ⟨h.opr, h.ctu, h.station, h.joinCount, h.peers, rfl, rfl, rfl, rfl, h.wayside⟩

/-! ## The causes (R55, R58, R59, R94, R95) -/

/-- R58: at the limit of the veto run the station relistens. -/
theorem State.countVeto_of_limit (s : State) (h : 7 ≤ s.liu.vetoRun) :
    s.countVeto = (s.setLiu { s.liu with vetoRun := s.liu.vetoRun + 1 }).relisten .vetoRun := by
  have hlimit : Config.vetoRunLimit ≤ s.liu.vetoRun + 1 := by simp only [Config.vetoRunLimit]; omega
  simp [State.countVeto, State.relistenIf, hlimit]

/-- R59: at the limit of the rejection count the station relistens. -/
theorem State.countRejection_eq_relisten (s : State) (h : 15 ≤ s.liu.rejections) :
    s.countRejection = (s.setLiu { s.liu with rejections := s.liu.rejections + 1 }).relisten .rejectionLimit := by
  have hlimit : Config.rejectionLimit ≤ s.liu.rejections + 1 := by simp only [Config.rejectionLimit]; omega
  simp [State.countRejection, State.relistenIf, hlimit]

/-- R94: the own lease. -/
theorem exec_ownLeaseExpiry_of_active (s : State) (hr : s.inReset = false) (hstation : s.mbu.station = .active)
    (hlease : s.mbu.ownLease.isSome) : exec .ownLeaseExpiry s = .next (s.relisten .ownLease) :=
  (live_next _ s hr).trans (by rw [if_pos (by simp [State.isActive, hstation, hlease])])

/-- R52, R55, R58: a driven veto relistens where it reads recessive, or dominant at the limit. -/
theorem State.readVeto_of_vetoes (s : State) (l : LineFrame) (dominant : Bool) (hv : l.vetoes = true)
    (hlimit : dominant = true → 7 ≤ s.liu.vetoRun) :
    ∃ liu, s.readVeto l dominant = (s.setLiu liu).relisten (if dominant then .vetoRun else .driveFailure) := by
  unfold State.readVeto
  rw [if_pos hv]
  cases dominant with
  | false => exact ⟨_, rfl⟩
  | true => exact ⟨_, State.countVeto_of_limit _ (hlimit rfl)⟩

/-- R55: a drive failure at the own slot. -/
theorem exec_driveFailure_of_tallies (s : State) (l : LineFrame) (hr : s.inReset = false) (hphase : s.liu.phase = .slots)
    (hline : s.liu.line = some l) (ht : l.tallies = true) : exec .driveFailure s = .next (s.relisten .driveFailure) := by
  have hveto : l.veto = some false := by
    simp only [LineFrame.tallies, Bool.and_eq_true, beq_iff_eq] at ht
    exact ht.1.2
  have hnext : s.liu.vetoNext l = false := by simp [Liu.vetoNext, hveto]
  simp [exec, execDriveFailure, live_next _ s hr, hline, hnext, hphase, ht]

/-- R55: a drive failure at the veto slot. -/
theorem exec_driveFailure_of_vetoes (s : State) (l : LineFrame) (hr : s.inReset = false) (hat : AtVeto s l)
    (hv : l.vetoes = true) : exec .driveFailure s = .next (s.readVeto l false) := by
  obtain ⟨hline, hreceived, hveto, hphase⟩ := hat
  have hnext : s.liu.vetoNext l = true := (Liu.vetoNext_iff _ _).mpr ⟨hreceived, hveto, hphase⟩
  simp [exec, execDriveFailure, live_next _ s hr, hline, hnext, hv]

/-- R59, R77: an outcome REJECTED that is counted at the limit: the queue and its requester, and then the relisten. -/
theorem MeetsRelisten.countRejection {s u : State} (h : MeetsRelisten s u u) (liu : Liu) (e : TxEntry) (f : Flight)
    (he : u.txq.flying = some e) (hf : e.flight = some f) (hlimit : 15 ≤ liu.rejections) :
    ∃ v, ((u.setLiu liu).sendOver .rejected).countRejection = v.relisten .rejectionLimit ∧
      MeetsRelisten s (discardClaim u e f) v := by
  have hliu : ((u.setLiu liu).sendOver .rejected).liu = liu := by simp
  have hmeets : MeetsRelisten s (discardClaim (u.setLiu liu) e f) ((u.setLiu liu).sendOver .rejected) :=
    MeetsRelisten.sendOver (MeetsRelisten.setLiu_iff.mpr (h.setLiu liu)) e f he hf
  rw [discardClaim_setLiu] at hmeets
  exact ⟨_, State.countRejection_eq_relisten _ (hliu.symm ▸ hlimit), (MeetsRelisten.setLiu_iff.mp hmeets).setLiu _⟩

/-- R47, R59: a clash of the entry in flight, with the count that it goes by. -/
theorem exec_clash_eq (s : State) (arbitrated : Bool) (e : TxEntry) (hr : s.inReset = false) (hphase : s.liu.phase = .send)
    (he : s.txq.flying = some e) :
    ∃ liu : Liu, liu.rejections = clashCount s arbitrated e ∧
      exec (.clash arbitrated) s = .next ((s.setLiu liu).sendOver .rejected).countRejection := by
  refine ⟨Liu.countClash { s.liu with phase := .receive, line := s.liu.line.map LineFrame.afterClash } arbitrated e.identity,
    (Liu.countClash_rejections _ arbitrated e.identity).1, ?_⟩
  simp only [exec, execClash, live_next _ s hr, hphase, if_true, State.clashSend, he]
  rfl

/-- R49, R58: the end of a break on a recessive run at the limit. -/
theorem State.endBreak_of_limit (s : State) (l : LineFrame) (hline : s.liu.line = some l) (hp : l.participating = true)
    (hrun : s.liu.breakOnRecessive = true) (hlimit : 7 ≤ s.liu.vetoRun) :
    ∃ liu, s.endBreak = (s.sightingLost.setLiu liu).relisten .vetoRun := by
  rw [s.endBreak_eq l hline, if_pos ⟨hp, hrun⟩, State.seekIdle, s.sightingLost_setLiu]
  exact ⟨_, State.countVeto_of_limit _ hlimit⟩

/-- R55, R58, R59, R94, R95: every cause relistens, from the state that the statements name. -/
theorem exec_of_relistens (s u : State) (i : Instr) (cause : ChangeCause) (hr : s.inReset = false) (h : Relistens s i cause u) :
    ∃ v, exec i s = .next (v.relisten cause) ∧ MeetsRelisten s u v := by
  cases i with
  | ownLeaseExpiry =>
    obtain ⟨rfl, hstation, hlease, rfl⟩ := h
    exact ⟨_, exec_ownLeaseExpiry_of_active u hr hstation hlease, .refl u⟩
  | driveFailure =>
    obtain ⟨rfl, rfl, l, ⟨hphase, hline, ht⟩ | ⟨hat, hv⟩⟩ := h
    · exact ⟨_, exec_driveFailure_of_tallies u l hr hphase hline ht, .refl u⟩
    · obtain ⟨liu, hread⟩ := u.readVeto_of_vetoes l false hv (fun h => nomatch h)
      exact ⟨_, (exec_driveFailure_of_vetoes u l hr hat hv).trans (congrArg _ hread), (MeetsRelisten.refl u).setLiu liu⟩
  | vetoSlotEnd dominant =>
    obtain ⟨⟨l, hat, hv⟩, rfl, hcause⟩ := h
    obtain ⟨liu, hread⟩ := u.readVeto_of_vetoes l dominant hv fun hd => by
      rcases hcause with ⟨-, hlimit, -⟩ | ⟨hrecessive, -⟩
      · exact hlimit
      · exact nomatch hrecessive.symm.trans hd
    have hsame : (if dominant then ChangeCause.vetoRun else .driveFailure) = cause := by
      rcases hcause with ⟨rfl, -, rfl⟩ | ⟨rfl, rfl⟩ <;> rfl
    rw [hsame] at hread
    exact ⟨_, (exec_vetoSlotEnd_of_atVeto u l dominant hr hat).trans (congrArg _ hread), (MeetsRelisten.refl u).setLiu liu⟩
  | breakEnd =>
    obtain ⟨rfl, hphase, hrun, hlimit, rfl, l, hline, hp⟩ := h
    obtain ⟨liu, hbreak⟩ := s.endBreak_of_limit l hline hp hrun hlimit
    exact ⟨_, (exec_breakEnd_of_breaking s hr hphase).trans (congrArg _ hbreak), (MeetsRelisten.sightingLost s).setLiu liu⟩
  | clash arbitrated =>
    obtain ⟨rfl, hphase, e, f, he, hf, hlimit, rfl⟩ := h
    obtain ⟨liu, hcount, hexec⟩ := exec_clash_eq s arbitrated e hr hphase he
    obtain ⟨v, hv, hmeets⟩ := (MeetsRelisten.refl s).countRejection liu e f he hf (hcount ▸ hlimit)
    exact ⟨v, hexec.trans (congrArg _ hv), hmeets⟩
  | frameRejected slots =>
    obtain ⟨rfl, hphase, hlimit, ⟨l, hline, hown, hveto⟩, e, f, he, hf, rfl⟩ := h
    have hrejects : s.rejects l slots = true := (s.rejects_iff l slots).mpr (Or.inl hveto)
    have hflying : s.sightingLost.txq.flying = some e := by simpa using he
    obtain ⟨v, hv, hmeets⟩ := (MeetsRelisten.sightingLost s).countRejection (s.liu.seek 0) e f hflying hf hlimit
    refine ⟨v, ?_, hmeets⟩
    rw [exec_frameRejected_of_rejects s l slots hr hphase hline hrejects, s.rejectFrame_of_flying l e hown he, if_pos hveto,
      State.seekIdle, s.sightingLost_setLiu, hv]
  | reset | resetRelease | storeRetryWait | clockStretchTimeout | optionReadEnd _ _ | detectorSettleEnd _ _ _ _
  | settleTimeout _ _ _ _ | lineIdle | transmitStart | frameStartReceived | arbitrationLost | stuffError _ | frameClassify _
  | beaconTaken _ | claimTaken _ | reclaimTaken _ | releaseTaken _ | lapseTaken _ | clearTaken _ | guardTaken _ | lieTaken _
  | listenTimerExpiry | listenLimitExpiry | remoteLeaseExpiry _ | beaconTimerExpiry | holdOffExpiry | lieWaitExpiry _
  | keepTimerExpiry | spdPeriodStart | odometerCount | tagReceived _ _ _ | lockLevelChange _ _ _ | throwTimerExpiry _
  | occupancyChange _ _ | staggerExpiry | busyTransaction | invalidCommand _ | status | notice | readEntry _ | readPeer _
  | clearCommand _ | locate _ _ _ | loadRoute _ | cancel | take _ | resume | docked | keep | possess _ | unpossess | throw _ _
  | filteredOdometerFall => exact h.elim

/-- Settles O17: every cause relistens a state that agrees with the one the statement names (`exec_of_relistens`); the relisten itself is `relisten_all`,
its notices `State.relisten_dpt`, and a wayside's blocks `State.relisten_wayside`. -/
theorem relistenClearsTheStation : Obligations.RelistenClearsTheStation := by
  intro s u i cause hr honline h
  obtain ⟨v, hexec, hmeets⟩ := exec_of_relistens s u i cause hr h
  obtain ⟨hrole, hme, -, -, hbp, -⟩ := State.of_opr hmeets.opr
  have hv : v.online = true := (State.of_station hmeets.station).1.trans honline
  obtain ⟨hstation, hcause, hjoin, hlisten, hlease, hbeacon, hconflict, hpeers, hctu, htxq, hage, hrun, hrejections, hcounted,
    hline, -⟩ := relisten_all v cause hv
  refine ⟨v.relisten cause, hexec, hstation, hcause, hjoin.trans hmeets.joinCount, hbp ▸ hlisten, hlease, hbeacon, hconflict,
    fun k => ?_, hmeets.opr ▸ hctu, htxq, hage.trans hmeets.nextAge, hrun, hrejections, hcounted, hline, ?_, fun hwayside => ?_⟩
  · rw [hpeers k, hme, hmeets.peers]
  · rw [v.relisten_dpt cause hv, hrole, hme, hmeets.ctu, hmeets.dpt, hmeets.engine, hmeets.headNum]
  · obtain ⟨htoc, hrte, hmou, hpos⟩ := v.relisten_wayside cause hv (hrole.trans hwayside)
    obtain ⟨htoc', hrte', hmou', hpos'⟩ := hmeets.wayside hwayside
    exact ⟨htoc.trans htoc', hrte.trans hrte', hmou.trans hmou', hpos.trans hpos'⟩

end Sys2Proof.Machine
end

section
/-! A duplicate of this station's number (R60, R97): the halt, and what the route engine, the motion outputs and the turnout controller make of it. -/
namespace Sys2Proof.Machine

open Sys2Proof

/-- R97, R105: the state in which the blocks are told of the halt. -/
def State.haltedDuplicate (s : State) : State :=
  let s1 := s.enter .duplicateHalt .duplicate
  let s2 := s1.setCtu (clearTable s1.opr.map)
  let s3 := s2.setMbu s2.mbu.halted
  (s3.setTxq s3.txq.emptied).setLiu s3.liu.off

theorem State.duplicateHalt_eq (s : State) : s.duplicateHalt = s.haltedDuplicate.tellHalt := rfl

/-! ## The freeze of a carriage (R109, R141) -/

/-- R136: a MOVING engine posts HALTED. -/
theorem State.routeFreeze_dpt (s : State) :
    s.routeFreeze.dpt = if s.rte.state = .moving then s.dpt.post (.halted .duplicate (s.headNum.getD 255)) else s.dpt :=
  halt_post (s.assertStop .duplicate) .duplicate

/-- R141: STOP is asserted, with its cause where it was released; the duty drops and the keep timer stops. -/
theorem State.routeFreeze_mou (s : State) :
    s.routeFreeze.mou =
      { stop := true, stopCause := if s.mou.stop then s.mou.stopCause else .duplicate, current := 0, next := 0, keep := none } := by
  have hhalt : s.routeFreeze.mou = { ((s.assertStop .duplicate).halt .duplicate).mou.dropDuty with keep := none } := rfl
  rw [hhalt, halt_mou]
  split <;> rfl

/-- R109: the claim and the offer end, and a MOVING engine is HALTED. -/
theorem State.routeFreeze_rte (s : State) :
    s.routeFreeze.rte.offer = none ∧ s.routeFreeze.rte.claim = none ∧
      s.routeFreeze.rte.state = if s.rte.state = .moving then .halted else s.rte.state := by
  refine ⟨rfl, rfl, ?_⟩
  have hhalt : s.routeFreeze.rte.state = ((s.assertStop .duplicate).halt .duplicate).rte.state := rfl
  rw [hhalt, halt_rte]
  exact apply_ite Rte.state _ _ _

/-- The position fault stays. -/
theorem State.routeFreeze_fault (s : State) : s.routeFreeze.pos.fault = s.pos.fault :=
  (halt_place (s.assertStop .duplicate) .duplicate).1

/-! ## The controller (R177) -/

/-- R177: the motors run on. -/
theorem Toc.emptied_motors (c : Toc) : c.emptied.records.map (·.motor) = c.records.map (·.motor) := by
  simp only [Toc.emptied, List.map_map]
  refine List.map_congr_left fun r _ => ?_
  simp only [Function.comp, Record.emptied]
  split <;> rfl

/-! ## The halt -/

/-- R97, R136: LINK, and HALTED by a MOVING carriage. -/
theorem State.duplicateHalt_dpt (s : State) :
    s.duplicateHalt.dpt =
      if s.role = some .carriage ∧ s.rte.state = .moving then
        (s.dpt.post (.link .duplicateHalt .duplicate)).post (.halted .duplicate (s.headNum.getD 255))
      else s.dpt.post (.link .duplicateHalt .duplicate) := by
  have hrole : s.haltedDuplicate.role = s.role := rfl
  rw [s.duplicateHalt_eq, State.tellHalt, hrole]
  cases hr : s.role with
  | none => simp [State.haltedDuplicate, State.enter]
  | some role =>
    cases role with
    | carriage =>
      simp only [true_and]
      exact State.routeFreeze_dpt _
    | wayside => simp [State.haltedDuplicate, State.enter]

/-- R60: a taken frame under this station's number that this station did not send. -/
theorem exec_taken_of_duplicate (s : State) (l : LineFrame) (r : Received) (k : Kind) (slots : StationSet) (hr : s.inReset = false)
    (hstation : s.online = true ∨ s.mbu.station = .listen) (hphase : s.liu.phase = .slots) (hline : s.liu.line = some l)
    (hrec : l.received = some r) (hkind : r.ofKind k = true) (hveto : l.veto = some false)
    (hquorum : s.option (·.quorum) ≤ stationCount (slots &&& s.roster)) (hme : frameStation r.frame = s.me) (hown : l.own = none) :
    exec (takenInstr k slots) s = .next s.duplicateHalt := by
  rw [exec_taken, live_next _ _ hr, takenRow_eq s k slots l r hphase hline hrec hkind hveto hquorum hstation, State.taken,
    if_pos ⟨hme, by rw [hown]; rfl⟩]

/-- Settles O19: the halt's own state has the station, its table, its queue and its line unit; the freeze has a carriage's blocks, and the emptied
controller a wayside's. -/
theorem duplicateHalts : Obligations.DuplicateHalts := by
  intro s l r k slots hr hstation hphase hline hrec hkind hveto hquorum hme hown
  obtain ⟨-, -, hctu, hliu, htxq, hmbu, -⟩ := s.haltedDuplicate.tellHalt_frame
  have hrole : s.haltedDuplicate.role = s.role := rfl
  refine ⟨_, exec_taken_of_duplicate s l r k slots hr hstation hphase hline hrec hkind hveto hquorum hme hown, ?_⟩
  rw [s.duplicateHalt_dpt, s.duplicateHalt_eq, hmbu, hctu, htxq, hliu]
  refine ⟨rfl, rfl, rfl, rfl, rfl, fun k => tab_get _ k, rfl, rfl, rfl, rfl, rfl, rfl, rfl, rfl, rfl, fun hcarriage => ?_,
    fun hwayside => ?_⟩
  · rw [State.tellHalt, hrole, hcarriage]
    obtain ⟨hoffer, hclaim, hstate⟩ := s.haltedDuplicate.routeFreeze_rte
    exact ⟨State.routeFreeze_mou _, hoffer, hclaim, hstate, State.routeFreeze_fault _, by simp [State.haltedDuplicate, State.enter]⟩
  · rw [State.tellHalt, hrole, hwayside]
    exact ⟨rfl, Toc.emptied_motors _, rfl, rfl, rfl, rfl⟩

end Sys2Proof.Machine
end

section
/-! The notices that a taken frame has posted beside the peer table's (R190): none of the route engine, of the turnout controller or of an entry to a station
state is a PEER. -/
namespace Sys2Proof.Machine

open Sys2Proof

/-- R190: a PEER notice. -/
def Notice.isPeer : Notice → Bool
  | .peer _ _ => true
  | _ => false

/-- R191: from one state to another notices were posted, and no PEER among them. -/
def State.Told (s t : State) : Prop := ∃ ns : List Notice, (∀ n ∈ ns, n.isPeer = false) ∧ t.dpt = ns.foldl Dpt.post s.dpt

namespace State.Told

variable {s u t : State}

theorem same (h : t.dpt = s.dpt := by simp) : s.Told t := ⟨[], by simp, h⟩

theorem trans (h : s.Told u) (k : u.Told t) : s.Told t := by
  obtain ⟨ns, hns, hu⟩ := h
  obtain ⟨ms, hms, ht⟩ := k
  refine ⟨ns ++ ms, fun n hn => ?_, by rw [List.foldl_append, ← hu, ht]⟩
  exact (List.mem_append.mp hn).elim (hns n) (hms n)

/-- The port is as it was. -/
theorem keep (h : s.Told u) (hk : t.dpt = u.dpt := by simp) : s.Told t := h.trans (.same hk)

theorem post (h : s.Told u) (n : Notice) (hn : n.isPeer = false := by rfl) : s.Told (u.post n) :=
  h.trans ⟨[n], by simp [hn], by simp⟩

theorem postIf (h : s.Told u) (b : Bool) (n : Notice) (hn : n.isPeer = false := by rfl) : s.Told (u.postIf b n) := by
  unfold State.postIf
  split
  · exact h.post n hn
  · exact h

theorem foldl {β : Type} (f : State → β → State) (hf : ∀ (u : State) (b : β), s.Told u → s.Told (f u b)) (l : List β)
    (h : s.Told u) : s.Told (l.foldl f u) := by
  induction l generalizing u with
  | nil => exact h
  | cons b rest ih => exact ih (hf u b h)

/-! ## What posts nothing -/

theorem assertStop (h : s.Told u) (cause : StopCause) : s.Told (u.assertStop cause) := h.keep rfl

theorem requestRelease (h : s.Told u) (segs : List Seg) : s.Told (u.requestRelease segs) := h.keep

theorem requestLie (h : s.Told u) (seg : Seg) (cause : LieCause) (answer : Option Answer) :
    s.Told (u.requestLie seg cause answer) := h.keep

theorem modifyRecord (h : s.Told u) (seg : Seg) (f : Record → Record) : s.Told (u.modifyRecord seg f) := h.keep

theorem enter (h : s.Told u) (state : StationState) (cause : ChangeCause) : s.Told (u.enter state cause) :=
  (h.keep (t := u.setMbu _)).post (.link state cause)

/-! ## The route engine (chapter 6) -/

theorem halt (h : s.Told u) (cause : StopCause) : s.Told (u.halt cause) := by
  unfold State.halt
  split
  · exact (h.keep (t := (u.setEngine .halted).setRte _)).post _
  · exact h

theorem refreshOffer (h : s.Told u) : s.Told u.refreshOffer := by
  unfold State.refreshOffer
  split
  · exact h.keep
  · split
    · exact h
    · exact (h.keep (t := u.setRte _)).post _

theorem refresh (h : s.Told u) : s.Told u.refresh := h.refreshOffer.keep rfl

theorem placementWon (h : s.Told u) : s.Told u.placementWon := postIf (h.keep (by simp)) _ _

theorem plan (h : s.Told u) : s.Told u.plan := by
  have hdone : s.Told (if u.placementDone then u.placementWon else u) := by
    split
    · exact h.placementWon
    · exact h
  unfold State.plan
  dsimp only
  generalize (if u.placementDone = true then u.placementWon else u) = v at hdone ⊢
  split
  · split
    · exact hdone
    · exact hdone.keep
  · exact hdone

theorem settle (h : s.Told u) : s.Told u.settle := h.plan.refresh

theorem loseCommitted (h : s.Told u) (before : List Step) : s.Told (u.loseCommitted before) := by
  unfold State.loseCommitted
  split
  · exact h
  · exact ((h.post _).assertStop _).halt _

theorem placementLost (h : s.Told u) (cause : LossCause) : s.Told (u.placementLost cause) := postIf (h.keep (by simp)) _ _

theorem countLoss (h : s.Told u) (o : Outstanding) (cause : LossCause) : s.Told (u.countLoss o cause) :=
  postIf (h.keep (by simp)) _ _

theorem claimWon (h : s.Told u) (o : Outstanding) : s.Told (u.claimWon o) := by
  unfold State.claimWon
  dsimp only
  split
  · exact placementWon (h.keep (by simp))
  · exact h.keep

theorem claimLost (h : s.Told u) (o : Outstanding) (cause : LossCause) : s.Told (u.claimLost o cause) := by
  unfold State.claimLost
  split
  · exact h
  · split
    · exact h.placementLost cause
    · exact h.countLoss o cause

theorem claimOutcome (h : s.Told u) (told : Option ClaimTold) (outcome : Option ClaimOutcome) :
    s.Told (u.claimOutcome told outcome) := by
  have hrte : ∀ r, s.Told (u.setRte r) := fun _ => h.keep
  unfold State.claimOutcome
  split
  · exact hrte _
  · dsimp only
    split
    · exact (hrte _).claimWon _
    · exact (hrte _).claimLost _ _
    · exact hrte _
  · exact h

/-- R121: the notice of a refused lie is no PEER. -/
theorem refusalOf_isPeer {me : Station} {r : Report} {route : List Step} {n : Notice} (h : refusalOf me r route = some n) :
    n.isPeer = false := by
  unfold refusalOf at h
  split at h
  · split at h
    · cases h
      rfl
    · cases h
  · cases h

theorem routeReport (h : s.Told u) (r : Report) (told : Option ClaimTold) : s.Told (u.routeReport r told) := by
  have hrte : ∀ x, s.Told (u.setRte x) := fun _ => h.keep
  unfold State.routeReport
  dsimp only
  refine (claimOutcome ?_ told r.outcome).settle
  split
  · next n hn => exact ((hrte _).loseCommitted _).post n (refusalOf_isPeer hn)
  · exact (hrte _).loseCommitted _

theorem routeReturn (h : s.Told u) : s.Told u.routeReturn := by
  unfold State.routeReturn
  refine settle ?_
  split
  · exact h.keep
  · exact h

/-! ## The turnout controller (chapter 9) -/

theorem reportLie (h : s.Told u) (seg : Seg) (lie : Lie) (cause : LieCause) (answer : Option Answer) :
    s.Told (u.reportLie seg lie cause answer) :=
  ((h.modifyRecord seg _).post _).requestLie seg cause answer

theorem stopThrow (h : s.Told u) (r : Record) (lie : Lie) (cause : LieCause) : s.Told (u.stopThrow r lie cause) :=
  reportLie (h.keep (by simp)) _ _ _ _

theorem startMotor (h : s.Told u) (r : Record) (target : Points) : s.Told (u.startMotor r target) := by
  have hmove : ∀ m c, s.Told (((u.modifyRecord r.seg m).setToc c).reportLie r.seg .moving .moving r.answer) :=
    fun _ _ => reportLie (h.keep (by simp)) _ _ _ _
  unfold State.startMotor
  dsimp only
  split
  · exact (hmove _ _).stopThrow _ _ _
  · exact hmove _ _

theorem startChecks (h : s.Told u) (segs : List Seg) : s.Told (u.startChecks segs) := by
  induction segs generalizing u with
  | nil => exact h
  | cons seg rest ih =>
    have hleave : s.Told (u.leaveQueue seg) := h.keep
    unfold State.startChecks
    split
    · split
      · split
        · exact ih hleave.keep
        · split
          · exact (h.keep (t := u.setToc _)).startMotor _ _
          · exact ih hleave
      · exact ih hleave
    · exact ih hleave

theorem pump (h : s.Told u) : s.Told u.pump := by
  unfold State.pump
  split
  · exact h
  · exact h.startChecks _

theorem joinQueue (h : s.Told u) (seg : Seg) (target : Points) (answer : Option Answer) :
    s.Told (u.joinQueue seg target answer) := pump (h.keep (by simp))

theorem wonTurnout (h : s.Told u) (seg : Seg) (required : Option Points) (answer : Answer) :
    s.Told (u.wonTurnout seg required answer) := by
  unfold State.wonTurnout
  split
  · exact h.keep
  · split
    · exact h.keep
    · split
      · exact h.keep
      · split
        · exact h.keep
        · exact h.joinQueue _ _ _

theorem possessionOutcome (h : s.Told u) (r : Report) (withdrawn : Bool) : s.Told (u.possessionOutcome r withdrawn) := by
  have htoc : ∀ c, s.Told (u.setToc c) := fun _ => h.keep
  unfold State.possessionOutcome
  dsimp only
  split
  · split
    · exact ((htoc _).post _).requestRelease _
    · exact (htoc _).post _
  · split
    · exact htoc _
    · exact (htoc _).post _
  · exact htoc _

theorem possessionTold (h : s.Told u) (r : Report) (told : Option ClaimTold) : s.Told (u.possessionTold r told) := by
  unfold State.possessionTold
  split
  · exact h.possessionOutcome r _
  · exact h.keep
  · exact h

theorem answerWins (h : s.Told u) (r : Report) : s.Told (u.answerWins r) := foldl _ (fun _ _ hu => hu.wonTurnout _ _ _) _ h

theorem possessionEnds (h : s.Told u) (r : Report) : s.Told (u.possessionEnds r) := by
  unfold State.possessionEnds
  split
  · exact h.post _
  · split
    · exact h.postIf _ _
    · exact h

theorem turnoutReport (h : s.Told u) (r : Report) (told : Option ClaimTold) : s.Told (u.turnoutReport r told) := by
  have hends : s.Told ((((u.possessionTold r told).answerWins r).dropQueued r).possessionEnds r) :=
    possessionEnds (((h.possessionTold r told).answerWins r).keep (by simp)) r
  unfold State.turnoutReport
  dsimp only
  split
  · exact foldl _ (fun _ _ hu => hu.keep) _ hends
  · exact hends

theorem returnTurnout (h : s.Told u) (seg : Seg) : s.Told (u.returnTurnout seg) := by
  have hthrow : ∀ v a p, s.Told v → s.Told (v.returnThrow seg a p) := by
    intro v a p hv
    unfold State.returnThrow
    split
    · exact hv.keep
    · split
      · exact hv
      · exact hv.joinQueue _ _ _
  unfold State.returnTurnout
  split
  · dsimp only
    split
    · exact hthrow _ _ _ h.keep
    · exact h.keep
  · exact h
  · exact h

theorem turnoutReturn (h : s.Told u) : s.Told u.turnoutReturn := foldl _ (fun _ _ hu => hu.returnTurnout _) _ h

/-! ## A taken frame (R56), and the entries to ANNOUNCE and ACTIVE (R92, R93) -/

theorem applyFrame (h : s.Told u) (sender : Station) (content : Option Payload) (told : Option ClaimTold) :
    s.Told (u.applyFrame sender content told) := by
  have hctu : ∀ c, s.Told (u.setCtu c) := fun _ => h.keep
  unfold State.applyFrame
  split
  · exact h
  · unfold State.handReport
    split
    · exact (hctu _).routeReport _ told
    · exact (hctu _).turnoutReport _ told
    · exact hctu _

theorem activate (h : s.Told u) : s.Told u.activate := by
  have hactive : s.Told ((u.enter .active .announceTaken).startOwnLease) :=
    (h.enter _ _).keep rfl
  unfold State.activate State.tellActive
  split
  · exact hactive.routeReturn
  · exact hactive.turnoutReturn
  · exact hactive

theorem completionTest (h : s.Told u) : s.Told u.completionTest := by
  unfold State.completionTest
  split
  · exact (h.enter .announce .listenDone).keep (by simp [State.announce])
  · exact h

end State.Told

end Sys2Proof.Machine
end

section
/-! The peer table after a taken frame (R91, R99, R101, R103): each record, and the notices in their order. -/
namespace Sys2Proof.Machine

open Sys2Proof

/-! ## One record set -/

theorem State.setPeer_peers (s : State) (k j : Station) (p : Peer) :
    (s.setPeer k p).mbu.peers[j] = if j = k then p else s.mbu.peers[j] := tab_get _ j

/-! ## The stations seen (R99) -/

theorem State.see_peers (s : State) (k j : Station) :
    (s.see k).mbu.peers[j] = if j = k then s.seenPeer s.mbu.peers[k] else s.mbu.peers[j] := by
  have hmbu : (s.see k).mbu = (s.setPeer k (s.seenPeer s.mbu.peers[k])).mbu := by simp [State.see]
  rw [hmbu, State.setPeer_peers]

/-- R99: a station seen that was not PRESENT is posted. -/
def seenNotice (peers : Vector Peer 32) (k : Station) : List Notice :=
  if peers[k].presence = .present then [] else [.peer k .present]

theorem State.see_dpt (s : State) (k : Station) : (s.see k).dpt = (seenNotice s.mbu.peers k).foldl Dpt.post s.dpt := by
  unfold State.see State.postIf seenNotice
  by_cases h : s.mbu.peers[k].presence = .present
  · rw [if_neg (by rw [h]; decide), if_pos h]; rfl
  · rw [if_pos (bne_iff_ne.mpr h), if_neg h]; rfl

theorem State.foldl_see_peers (l : List Station) (s : State) (j : Station) :
    (l.foldl State.see s).mbu.peers[j] = if j ∈ l then s.seenPeer s.mbu.peers[j] else s.mbu.peers[j] := by
  induction l generalizing s with
  | nil => simp
  | cons k rest ih =>
    have hbp : (s.see k).remoteLease = s.remoteLease := by
      rw [State.remoteLease, (State.of_opr (by simp : (s.see k).opr = s.opr)).2.2.2.2.1]; rfl
    rw [List.foldl_cons, ih, s.see_peers]
    by_cases hj : j = k
    · subst hj
      simp [State.seenPeer, hbp]
    · simp [State.seenPeer, hbp, hj]

theorem State.foldl_see_dpt (l : List Station) (s : State) (hl : l.Nodup) :
    (l.foldl State.see s).dpt = (l.flatMap (seenNotice s.mbu.peers)).foldl Dpt.post s.dpt := by
  induction l generalizing s with
  | nil => rfl
  | cons k rest ih =>
    obtain ⟨hk, hrest⟩ := List.nodup_cons.mp hl
    have hsame : rest.flatMap (seenNotice (s.see k).mbu.peers) = rest.flatMap (seenNotice s.mbu.peers) := by
      refine List.flatMap_congr fun j hj => ?_
      rw [seenNotice, s.see_peers, if_neg (ne_of_mem_of_not_mem hj hk), seenNotice]
    rw [List.foldl_cons, ih _ hrest, s.see_dpt, hsame, List.flatMap_cons, List.foldl_append]

/-! ## The stations of a LAPSE (R101) -/

/-- R101: the record of a station that a LAPSE names. -/
def Peer.lapsed (p : Peer) : Peer := { p with presence := .lapsed, lease := none }

theorem State.lapse_peers (s : State) (k j : Station) :
    (s.lapse k).mbu.peers[j] = if j = k ∧ k ≠ s.me then s.mbu.peers[j].lapsed else s.mbu.peers[j] := by
  unfold State.lapse
  by_cases hk : k = s.me
  · rw [if_pos hk, if_neg fun h => h.2 hk]; rfl
  · have hmbu : ∀ (p : Peer) b n, ((s.setPeer k p).postIf b n).mbu = (s.setPeer k p).mbu := fun _ _ _ => by simp
    rw [if_neg hk, hmbu, State.setPeer_peers]
    by_cases hj : j = k
    · subst hj
      simp [hk, Peer.lapsed]
    · simp [hj]

/-- R101: a station that a LAPSE names is posted where it is this one or was not LAPSED. -/
def lapsedNotice (me : Station) (peers : Vector Peer 32) (k : Station) : List Notice :=
  if k = me ∨ peers[k].presence ≠ .lapsed then [.peer k .lapsed] else []

theorem State.lapse_dpt (s : State) (k : Station) :
    (s.lapse k).dpt = (lapsedNotice s.me s.mbu.peers k).foldl Dpt.post s.dpt := by
  unfold State.lapse State.postIf lapsedNotice
  by_cases hk : k = s.me
  · rw [if_pos hk, if_pos (Or.inl hk)]; rfl
  · by_cases h : s.mbu.peers[k].presence = .lapsed
    · rw [if_neg hk, if_neg (by rw [h]; decide), if_neg (not_or.mpr ⟨hk, not_not.mpr h⟩)]; rfl
    · rw [if_neg hk, if_pos (bne_iff_ne.mpr h), if_pos (Or.inr h)]; rfl

theorem State.lapse_me (s : State) (k : Station) : (s.lapse k).me = s.me :=
  (State.of_opr (by simp : (s.lapse k).opr = s.opr)).2.1

theorem State.foldl_lapse_peers (l : List Station) (s : State) (j : Station) :
    (l.foldl State.lapse s).mbu.peers[j] = if j ∈ l ∧ j ≠ s.me then s.mbu.peers[j].lapsed else s.mbu.peers[j] := by
  induction l generalizing s with
  | nil => simp
  | cons k rest ih =>
    rw [List.foldl_cons, ih, s.lapse_peers, s.lapse_me]
    by_cases hj : j = k
    · subst hj
      by_cases hme : j = s.me <;> simp [hme, Peer.lapsed]
    · simp [hj]

theorem State.foldl_lapse_dpt (l : List Station) (s : State) (hl : l.Nodup) :
    (l.foldl State.lapse s).dpt = (l.flatMap (lapsedNotice s.me s.mbu.peers)).foldl Dpt.post s.dpt := by
  induction l generalizing s with
  | nil => rfl
  | cons k rest ih =>
    obtain ⟨hk, hrest⟩ := List.nodup_cons.mp hl
    have hsame : rest.flatMap (lapsedNotice s.me (s.lapse k).mbu.peers) = rest.flatMap (lapsedNotice s.me s.mbu.peers) := by
      refine List.flatMap_congr fun j hj => ?_
      have hpeer : (s.lapse k).mbu.peers[j] = s.mbu.peers[j] := by
        rw [s.lapse_peers, if_neg fun h => ne_of_mem_of_not_mem hj hk h.1]
      rw [lapsedNotice, hpeer, lapsedNotice]
    rw [List.foldl_cons, ih _ hrest, s.lapse_dpt, s.lapse_me, hsame, List.flatMap_cons, List.foldl_append]

/-! ## The parts of a taken frame that the peer table reads -/

/-- R101: the stations that a LAPSE names. -/
def namedSet : Option Payload → StationSet
  | some (.lapse set) => set
  | _ => 0

/-- R103: the role that a BEACON states. -/
def statedRole : Option Payload → Option Role
  | some (.beacon _ role _ _ _) => some role
  | _ => none

/-- R103: the role recorded, where one is stated. -/
def State.recordStated (s : State) (sender : Station) (role : Option Role) : State := role.elim s (s.recordRole sender)

/-- R99, R101, R103: the peer table when the sighting ends. -/
def State.peersRead (s : State) (tally : StationSet) (sender : Station) (heard : Option Payload) : State :=
  ((stationList (namedSet heard)).foldl State.lapse ((s.seenSet tally sender).foldl State.see s)).recordStated sender
    (statedRole heard)

theorem stationList_zero : stationList 0 = [] := by decide +kernel

theorem State.peersTaken_eq (s : State) (tally : StationSet) (sender : Station) (heard : Option Payload) :
    s.peersTaken tally sender heard = (s.peersRead tally sender heard).sightingTaken s.mbu.peers := by
  unfold State.peersTaken State.peersRead
  cases heard with
  | none => rfl
  | some p =>
    cases p with
    | lapse set => rfl
    | beacon announce role held blocked lies =>
      simp only [namedSet, stationList_zero]
      rfl
    | claim _ _ | reclaim _ _ | release _ | clear _ | guard _ | lie _ _ _ _ =>
      simp only [namedSet, stationList_zero]
      rfl

theorem State.mem_seenSet_iff (s : State) (tally : StationSet) (sender k : Station) (hk : 1 ≤ k.val ∧ k.val ≤ 30) :
    k ∈ s.seenSet tally sender ↔ k ≠ s.me ∧ stationHas s.roster k = true ∧ (stationHas tally k = true ∨ sender = k) := by
  rw [State.seenSet, List.mem_filter, mem_stationList_iff, stationHas_and, stationHas_or, stationHas_one]
  simp only [hk, Bool.and_eq_true, Bool.or_eq_true, decide_eq_true_eq, bne_iff_ne, true_and]
  tauto

theorem State.nodup_seenSet (s : State) (tally : StationSet) (sender : Station) : (s.seenSet tally sender).Nodup :=
  (nodup_stationList _).filter _

/-! ## The peer table when the sighting ends -/

/-- What the parts of the membership unit beside the peer table are after a run over stations that leaves them. -/
theorem foldl_besidePeers (f : State → Station → State) (p : Vector Peer 32)
    (hf : ∀ s k, { (f s k).mbu with peers := p } = { s.mbu with peers := p }) (l : List Station) (s : State) :
    { (l.foldl f s).mbu with peers := p } = { s.mbu with peers := p } :=
  foldl_keeps (fun s => { s.mbu with peers := p }) f hf l s

theorem State.see_besidePeers (s : State) (k : Station) (p : Vector Peer 32) :
    { (s.see k).mbu with peers := p } = { s.mbu with peers := p } := by
  simp [State.see, State.setPeer]

theorem State.lapse_besidePeers (s : State) (k : Station) (p : Vector Peer 32) :
    { (s.lapse k).mbu with peers := p } = { s.mbu with peers := p } := by
  unfold State.lapse
  split <;> simp [State.setPeer]

theorem State.recordStated_besidePeers (s : State) (sender : Station) (role : Option Role) (p : Vector Peer 32) :
    { (s.recordStated sender role).mbu with peers := p } = { s.mbu with peers := p } := by
  cases role <;> rfl

/-- R99, R101, R103: the rest of the membership unit stays. -/
theorem State.peersRead_besidePeers (s : State) (tally : StationSet) (sender : Station) (heard : Option Payload)
    (p : Vector Peer 32) : { (s.peersRead tally sender heard).mbu with peers := p } = { s.mbu with peers := p } := by
  unfold State.peersRead
  rw [State.recordStated_besidePeers, foldl_besidePeers _ p (fun u k => u.lapse_besidePeers k p),
    foldl_besidePeers _ p (fun u k => u.see_besidePeers k p)]

theorem State.peersRead_sighting (s : State) (tally : StationSet) (sender : Station) (heard : Option Payload) :
    (s.peersRead tally sender heard).mbu.sighting = s.mbu.sighting ∧
      (s.peersRead tally sender heard).mbu.lastConflict = s.mbu.lastConflict := by
  have hmbu := s.peersRead_besidePeers tally sender heard s.mbu.peers
  have hsighting := congrArg Mbu.sighting hmbu
  have hlast := congrArg Mbu.lastConflict hmbu
  exact ⟨hsighting, hlast⟩

/-- R103: a stated role is the sender's, and nothing else of its record changes. -/
theorem State.recordStated_peers (s : State) (sender : Station) (role : Option Role) (j : Station) :
    (s.recordStated sender role).mbu.peers[j] =
      { s.mbu.peers[j] with role := if j = sender then role.or s.mbu.peers[j].role else s.mbu.peers[j].role } := by
  cases role with
  | none => simp [State.recordStated]
  | some role =>
    have hset : (s.recordStated sender (some role)).mbu.peers[j] =
        if j = sender then { s.mbu.peers[sender] with role := some role } else s.mbu.peers[j] := s.setPeer_peers sender j _
    rw [hset]
    by_cases hj : j = sender
    · subst hj
      simp
    · simp [hj]

/-- R99, R101: a record before the role is stated. -/
def State.peerShown (s : State) (tally : StationSet) (sender : Station) (heard : Option Payload) (j : Station) : Peer :=
  let p := if j ∈ s.seenSet tally sender then s.seenPeer s.mbu.peers[j] else s.mbu.peers[j]
  if j ∈ stationList (namedSet heard) ∧ j ≠ s.me then p.lapsed else p

/-- R99: the state when the stations seen are recorded. -/
def State.seenAll (s : State) (tally : StationSet) (sender : Station) : State := (s.seenSet tally sender).foldl State.see s

theorem State.seenAll_opr (s : State) (tally : StationSet) (sender : Station) : (s.seenAll tally sender).opr = s.opr := by
  simp [State.seenAll, foldl_keeps]

theorem State.peersRead_peers (s : State) (tally : StationSet) (sender : Station) (heard : Option Payload) (j : Station) :
    (s.peersRead tally sender heard).mbu.peers[j] =
      { s.peerShown tally sender heard j with
        role := if j = sender then (statedRole heard).or s.mbu.peers[j].role else s.mbu.peers[j].role } := by
  have hme : (s.seenAll tally sender).me = s.me := (State.of_opr (s.seenAll_opr tally sender)).2.1
  have hread : s.peersRead tally sender heard =
      ((stationList (namedSet heard)).foldl State.lapse (s.seenAll tally sender)).recordStated sender (statedRole heard) := rfl
  rw [hread, State.recordStated_peers, State.foldl_lapse_peers, hme, State.seenAll, State.foldl_see_peers]
  have hrole : (s.peerShown tally sender heard j).role = s.mbu.peers[j].role := by
    simp only [State.peerShown]
    repeat' split
    all_goals rfl
  rw [State.peerShown] at hrole ⊢
  simp only [hrole]

/-- R99, R101: the notices of the peer table. -/
def State.peerNotices (s : State) (tally : StationSet) (sender : Station) (heard : Option Payload) : List Notice :=
  (s.seenSet tally sender).flatMap (seenNotice s.mbu.peers) ++
    (stationList (namedSet heard)).flatMap (lapsedNotice s.me (s.seenAll tally sender).mbu.peers)

theorem State.peersRead_dpt (s : State) (tally : StationSet) (sender : Station) (heard : Option Payload) :
    (s.peersRead tally sender heard).dpt = (s.peerNotices tally sender heard).foldl Dpt.post s.dpt := by
  have hme : (s.seenAll tally sender).me = s.me := (State.of_opr (s.seenAll_opr tally sender)).2.1
  have hread : s.peersRead tally sender heard =
      ((stationList (namedSet heard)).foldl State.lapse (s.seenAll tally sender)).recordStated sender (statedRole heard) := rfl
  have hrole : ∀ (u : State) (role : Option Role), (u.recordStated sender role).dpt = u.dpt := by
    intro u role
    cases role <;> rfl
  rw [hread, hrole, State.foldl_lapse_dpt _ _ (nodup_stationList _), hme, State.seenAll,
    State.foldl_see_dpt _ _ (s.nodup_seenSet _ _), State.peerNotices, List.foldl_append, State.seenAll]

theorem peer_mem_seenNotice_iff (peers : Vector Peer 32) (j k : Station) (presence : Presence) :
    .peer k presence ∈ seenNotice peers j ↔ j = k ∧ presence = .present ∧ peers[k].presence ≠ .present := by
  unfold seenNotice
  by_cases hj : j = k
  · subst hj
    by_cases h : peers[j].presence = .present
    · rw [if_pos h]; exact ⟨nofun, fun hp => absurd h hp.2.2⟩
    · rw [if_neg h, List.mem_singleton, Notice.peer.injEq]; exact ⟨fun hp => ⟨rfl, hp.2, h⟩, fun hp => ⟨rfl, hp.2.1⟩⟩
  · split <;> simp [hj, Ne.symm hj]

theorem peer_mem_lapsedNotice_iff (me : Station) (peers : Vector Peer 32) (j k : Station) (presence : Presence) :
    .peer k presence ∈ lapsedNotice me peers j ↔ j = k ∧ presence = .lapsed ∧ (k = me ∨ peers[k].presence ≠ .lapsed) := by
  unfold lapsedNotice
  by_cases hj : j = k
  · subst hj
    by_cases h : j = me ∨ peers[j].presence ≠ .lapsed
    · rw [if_pos h, List.mem_singleton, Notice.peer.injEq]; exact ⟨fun hp => ⟨rfl, hp.2, h⟩, fun hp => ⟨rfl, hp.2.1⟩⟩
    · rw [if_neg h]; exact ⟨nofun, fun hp => absurd hp.2.2 h⟩
  · split <;> simp [hj, Ne.symm hj]

/-- The notice of one station in a run over stations. -/
theorem mem_flatMap_iff_of_own {l : List Station} {f : Station → List Notice} {n : Notice} {k : Station} {P : Prop}
    (hf : ∀ j, n ∈ f j ↔ j = k ∧ P) : n ∈ l.flatMap f ↔ k ∈ l ∧ P := by
  simp only [List.mem_flatMap, hf]
  constructor
  · rintro ⟨j, hj, rfl, hP⟩
    exact ⟨hj, hP⟩
  · rintro ⟨hk, hP⟩
    exact ⟨k, hk, rfl, hP⟩

/-- R99, R101: which PEER notices are posted. -/
theorem State.peer_mem_peerNotices_iff (s : State) (tally : StationSet) (sender : Station) (heard : Option Payload)
    (k : Station) (presence : Presence) :
    .peer k presence ∈ s.peerNotices tally sender heard ↔
      (k ∈ s.seenSet tally sender ∧ presence = .present ∧ s.mbu.peers[k].presence ≠ .present) ∨
      (k ∈ stationList (namedSet heard) ∧ presence = .lapsed ∧
        (k = s.me ∨ k ∈ s.seenSet tally sender ∨ s.mbu.peers[k].presence ≠ .lapsed)) := by
  have hmid : (s.seenAll tally sender).mbu.peers[k].presence ≠ .lapsed ↔
      k ∈ s.seenSet tally sender ∨ s.mbu.peers[k].presence ≠ .lapsed := by
    rw [State.seenAll, State.foldl_see_peers]
    by_cases hk : k ∈ s.seenSet tally sender
    · rw [if_pos hk]
      exact iff_of_true nofun (Or.inl hk)
    · rw [if_neg hk]
      exact (or_iff_right hk).symm
  rw [State.peerNotices, List.mem_append, mem_flatMap_iff_of_own fun j => peer_mem_seenNotice_iff _ j k presence,
    mem_flatMap_iff_of_own fun j => peer_mem_lapsedNotice_iff _ _ j k presence, hmid]

/-! ## The peer table after the frame (R91) -/

/-- R91: the end of a sighting marks its sender's record. -/
theorem State.sightingTaken_peers (s : State) (before : Vector Peer 32) (j : Station) :
    (s.sightingTaken before).mbu.peers[j] =
      { s.mbu.peers[j] with
        foreign := s.mbu.peers[j].foreign || decide (s.mbu.sighting = some j ∧ 1 ≤ j.val ∧ j.val ≤ 30) } := by
  cases hs : s.mbu.sighting with
  | none => simp [s.sightingTaken_of_none before hs]
  | some k =>
    by_cases hk : 1 ≤ k.val ∧ k.val ≤ 30
    · have hset : (s.sightingTaken before).mbu.peers[j] =
          if j = k then { s.mbu.peers[k] with foreign := true } else s.mbu.peers[j] := by
        cases hb : before[k].foreign with
        | true => rw [s.sightingTaken_of_marked before k hs hk hb]; exact tab_get _ j
        | false => rw [s.sightingTaken_of_unmarked before k hs hk hb]; exact tab_get _ j
      rw [hset]
      by_cases hj : j = k
      · subst hj
        simp [hk]
      · simp [hj, Ne.symm hj]
    · rw [s.sightingTaken_of_other before k hs hk]
      by_cases hj : k = j
      · subst hj
        simp [hk]
      · simp [hj]

/-- R91: the only notice is a MAP_CONFLICT. -/
theorem State.told_sightingTaken (s : State) (before : Vector Peer 32) : s.Told (s.sightingTaken before) := by
  cases hs : s.mbu.sighting with
  | none =>
    rw [s.sightingTaken_of_none before hs]
    exact .same rfl
  | some k =>
    by_cases hk : 1 ≤ k.val ∧ k.val ≤ 30
    · cases hb : before[k].foreign with
      | true =>
        rw [s.sightingTaken_of_marked before k hs hk hb]
        exact .same rfl
      | false =>
        rw [s.sightingTaken_of_unmarked before k hs hk hb]
        exact State.Told.post (.same rfl) _
    · rw [s.sightingTaken_of_other before k hs hk]
      exact .same rfl

end Sys2Proof.Machine
end

section
/-! The verdict TAKEN (R56, R86 to R89): the state after it, in ANNOUNCE and ACTIVE and in LISTEN, and the passage of the frame through the peer table. -/
namespace Sys2Proof.Machine

open Sys2Proof

/-! ## The next state -/

/-- R56, R60: a taken frame of any class and kind, no duplicate. -/
theorem exec_taken_of_atTaken (s : State) (l : LineFrame) (r : Received) (kind : Kind) (slots : StationSet)
    (hat : AtTaken s l r slots) (hstation : s.online = true ∨ s.mbu.station = .listen) (hkind : r.ofKind kind = true) :
    exec (takenInstr kind slots) s = .next
      (if s.online then (s.seekIdle 0).takenOnline l.own.isSome r (slots &&& s.roster)
      else (s.seekIdle 0).takenListening r (slots &&& s.roster)) := by
  obtain ⟨hr, hphase, hline, hrec, hveto, hquorum, hme⟩ := hat
  have hnot : ¬(frameStation r.frame = s.me ∧ l.own.isNone = true) := by
    rintro ⟨hsame, hnone⟩
    simpa [Option.isNone_iff_eq_none.mp hnone] using hme hsame
  rw [exec_taken, live_next _ _ hr, takenRow_eq s kind slots l r hphase hline hrec hkind hveto hquorum hstation, State.taken,
    if_neg hnot]

theorem exec_taken_of_online (s : State) (l : LineFrame) (r : Received) (kind : Kind) (slots : StationSet)
    (hat : AtTaken s l r slots) (honline : s.online = true) (hkind : r.ofKind kind = true) :
    exec (takenInstr kind slots) s = .next ((s.seekIdle 0).takenOnline l.own.isSome r (slots &&& s.roster)) := by
  rw [exec_taken_of_atTaken s l r kind slots hat (Or.inl honline) hkind, if_pos honline]

theorem exec_taken_of_listen (s : State) (l : LineFrame) (r : Received) (kind : Kind) (slots : StationSet)
    (hat : AtTaken s l r slots) (hlisten : s.mbu.station = .listen) (hkind : r.ofKind kind = true) :
    exec (takenInstr kind slots) s = .next ((s.seekIdle 0).takenListening r (slots &&& s.roster)) := by
  have hoff : ¬s.online = true := by rw [State.online, hlisten]; decide
  rw [exec_taken_of_atTaken s l r kind slots hat (Or.inr hlisten) hkind, if_neg hoff]

/-! ## The passage through the peer table -/

/-- R56, R91, R99 to R103: from `s` to `t` a frame passed through the peer table, with notices before and after but no PEER among those. -/
structure ThroughPeers (s t : State) (tally : StationSet) (sender : Station) (heard : Option Payload) (u : State) : Prop where
  opr : u.opr = s.opr
  peers : u.mbu.peers = s.mbu.peers
  sighting : u.mbu.sighting = s.mbu.sighting
  lastConflict : u.mbu.lastConflict = s.mbu.lastConflict
  before : s.Told u
  peersAfter : t.mbu.peers = (u.peersTaken tally sender heard).mbu.peers
  sightingAfter : t.mbu.sighting = (u.peersTaken tally sender heard).mbu.sighting
  lastConflictAfter : t.mbu.lastConflict = (u.peersTaken tally sender heard).mbu.lastConflict
  after : (u.peersTaken tally sender heard).Told t

/-- R105: the block that is told of ACTIVE leaves the membership unit. -/
theorem State.activate_mbu (s : State) :
    s.activate.mbu = { s.mbu with station := .active, cause := .announceTaken, ownLease := some (4 * s.bp) } := by
  have htold : ∀ u : State, u.tellActive.mbu = u.mbu := by
    intro u
    unfold State.tellActive
    split <;> simp
  rw [State.activate, htold]
  rfl

/-- R56, R57: a taken frame in ANNOUNCE and ACTIVE when its report is acted on. -/
def State.tableTaken (s : State) (own : Bool) (r : Received) : State :=
  (s.sendTaken own).1.applyFrame (frameStation r.frame) r.content (s.sendTaken own).2

/-- R93, R94: the own lease and the own announce after a taken frame. -/
def State.endTaken (s : State) (own : Bool) (content : Option Payload) : State :=
  let s1 := if s.isActive then s.startOwnLease else s
  if s1.mbu.station = .announce ∧ ownAnnounce own content then s1.activate else s1

/-- R78: the stations of a taken frame out of the LAPSE entry. -/
def State.withdrawStations (s : State) (set : StationSet) : State := s.setTxq (s.txq.withoutStations set)

theorem State.takenOnline_eq (s : State) (own : Bool) (r : Received) (tally : StationSet) :
    s.takenOnline own r tally =
      (((s.tableTaken own r).peersTaken tally (frameStation r.frame) (r.heard s.roster)).withdrawStations
        (withdrawnStations tally (frameStation r.frame) (r.heard s.roster))).endTaken own r.content := rfl

theorem State.tableTaken_frame (s : State) (own : Bool) (r : Received) :
    (s.tableTaken own r).opr = s.opr ∧ (s.tableTaken own r).mbu = s.mbu := by
  simp [State.tableTaken]

theorem State.told_tableTaken (s : State) (own : Bool) (r : Received) : s.Told (s.tableTaken own r) :=
  State.Told.applyFrame (.same (by simp)) _ _ _

/-- R93, R94: an ACTIVE station's own lease restarts, and the own announce makes a station ACTIVE. -/
theorem State.endTaken_mbu (s : State) (own : Bool) (content : Option Payload) :
    (s.endTaken own content).mbu =
      if s.mbu.station = .announce ∧ ownAnnounce own content = true then
        { s.mbu with station := .active, cause := .announceTaken, ownLease := some (4 * s.bp) }
      else if s.mbu.station = .active then { s.mbu with ownLease := some (4 * s.bp) }
      else s.mbu := by
  unfold State.endTaken
  by_cases hactive : s.mbu.station = .active
  · have hnot : ¬(s.mbu.station = .announce ∧ ownAnnounce own content = true) := fun h => by simp [hactive] at h
    have hif : s.isActive = true := by simp [State.isActive, hactive]
    rw [if_neg hnot, if_pos hactive, if_pos hif]
    exact congrArg State.mbu (if_neg hnot)
  · have hif : ¬s.isActive = true := by simp [State.isActive, hactive]
    rw [if_neg hactive, if_neg hif]
    dsimp only
    split
    · exact s.activate_mbu
    · rfl

theorem State.told_endTaken (s : State) (own : Bool) (content : Option Payload) : s.Told (s.endTaken own content) := by
  have hlease : s.Told (if s.isActive then s.startOwnLease else s) := by
    split <;> exact .same rfl
  unfold State.endTaken
  dsimp only
  generalize (if s.isActive = true then s.startOwnLease else s) = u at hlease ⊢
  split
  · exact hlease.activate
  · exact hlease

/-- The peer table and the sighting stay. -/
theorem State.endTaken_peers (s : State) (own : Bool) (content : Option Payload) :
    (s.endTaken own content).mbu.peers = s.mbu.peers ∧ (s.endTaken own content).mbu.sighting = s.mbu.sighting ∧
      (s.endTaken own content).mbu.lastConflict = s.mbu.lastConflict := by
  rw [s.endTaken_mbu]
  split
  · exact ⟨rfl, rfl, rfl⟩
  · split <;> exact ⟨rfl, rfl, rfl⟩

/-- R56: in ANNOUNCE and ACTIVE. -/
theorem State.throughPeers_takenOnline (s : State) (own : Bool) (r : Received) (tally : StationSet) :
    ThroughPeers s (s.takenOnline own r tally) tally (frameStation r.frame) (r.heard s.roster) (s.tableTaken own r) := by
  obtain ⟨hopr, hmbu⟩ := s.tableTaken_frame own r
  rw [s.takenOnline_eq]
  obtain ⟨hpeers, hsighting, hlast⟩ := State.endTaken_peers
    (((s.tableTaken own r).peersTaken tally (frameStation r.frame) (r.heard s.roster)).withdrawStations
      (withdrawnStations tally (frameStation r.frame) (r.heard s.roster))) own r.content
  exact ⟨hopr, by rw [hmbu], by rw [hmbu], by rw [hmbu], s.told_tableTaken own r, hpeers, hsighting, hlast,
    State.Told.trans (.same rfl) (State.told_endTaken _ own r.content)⟩

/-- R92: the entry to ANNOUNCE leaves the peer table and the sighting. -/
theorem State.completionTest_peers (s : State) :
    s.completionTest.mbu.peers = s.mbu.peers ∧ s.completionTest.mbu.sighting = s.mbu.sighting ∧
      s.completionTest.mbu.lastConflict = s.mbu.lastConflict := by
  unfold State.completionTest
  split
  · rw [announce_mbu]
    exact ⟨rfl, rfl, rfl⟩
  · exact ⟨rfl, rfl, rfl⟩

/-- R86 to R88: what a listening station makes of the class leaves the peer table and the sighting. -/
theorem State.hear_peers (s : State) (r : Received) :
    (s.hear r).mbu.peers = s.mbu.peers ∧ (s.hear r).mbu.sighting = s.mbu.sighting ∧
      (s.hear r).mbu.lastConflict = s.mbu.lastConflict := by
  unfold State.hear
  split
  · split <;> exact ⟨rfl, rfl, rfl⟩
  · exact ⟨rfl, rfl, rfl⟩
  · exact ⟨rfl, rfl, rfl⟩

/-- R86 to R91: in LISTEN. -/
theorem State.throughPeers_takenListening (s : State) (r : Received) (tally : StationSet) :
    ThroughPeers s (s.takenListening r tally) tally (frameStation r.frame) (r.heardListening s.roster) (s.hear r) := by
  obtain ⟨hpeers, hsighting, hlast⟩ := s.hear_peers r
  obtain ⟨hpeers', hsighting', hlast'⟩ :=
    ((s.hear r).peersTaken tally (frameStation r.frame) (r.heardListening s.roster)).completionTest_peers
  exact ⟨by simp, hpeers, hsighting, hlast, .same, hpeers', hsighting', hlast', State.Told.completionTest (.same rfl)⟩

/-- R101, R103: what the peer table of the station reads of a taken frame. -/
def State.heardOf (s : State) (r : Received) : Option Payload :=
  if s.online then r.heard s.roster else r.heardListening s.roster

/-- At every verdict TAKEN but a duplicate's the frame passes through the peer table. -/
theorem exec_taken_throughPeers (s : State) (l : LineFrame) (r : Received) (kind : Kind) (slots : StationSet)
    (hat : AtTaken s l r slots) (hstation : s.online = true ∨ s.mbu.station = .listen) (hkind : r.ofKind kind = true) :
    ∃ t u, exec (takenInstr kind slots) s = .next t ∧
      ThroughPeers s t (slots &&& s.roster) (frameStation r.frame) (s.heardOf r) u := by
  have hset : ∀ {t u : State} {heard : Option Payload},
      ThroughPeers (s.seekIdle 0) t (slots &&& s.roster) (frameStation r.frame) heard u →
      ThroughPeers s t (slots &&& s.roster) (frameStation r.frame) heard u :=
    fun h => ⟨h.opr, h.peers, h.sighting, h.lastConflict, h.before, h.peersAfter, h.sightingAfter, h.lastConflictAfter, h.after⟩
  rcases hstation with honline | hlisten
  · refine ⟨_, (s.seekIdle 0).tableTaken l.own.isSome r, exec_taken_of_online s l r kind slots hat honline hkind, ?_⟩
    rw [State.heardOf, if_pos honline]
    exact hset (State.throughPeers_takenOnline _ _ r _)
  · have hoff : ¬s.online = true := by rw [State.online, hlisten]; decide
    refine ⟨_, (s.seekIdle 0).hear r, exec_taken_of_listen s l r kind slots hat hlisten hkind, ?_⟩
    rw [State.heardOf, if_neg hoff]
    exact hset (State.throughPeers_takenListening _ r _)

end Sys2Proof.Machine
end

section
/-! A foreign sighting and the verdict TAKEN (R91). -/
namespace Sys2Proof.Machine

open Sys2Proof

theorem State.sightingTaken_sighting (s : State) (before : Vector Peer 32) : (s.sightingTaken before).mbu.sighting = none := by
  cases hs : s.mbu.sighting with
  | none => rw [s.sightingTaken_of_none before hs, hs]
  | some k =>
    by_cases hk : 1 ≤ k.val ∧ k.val ≤ 30
    · cases hb : before[k].foreign with
      | true => rw [s.sightingTaken_of_marked before k hs hk hb]; rfl
      | false => rw [s.sightingTaken_of_unmarked before k hs hk hb]; rfl
    · rw [s.sightingTaken_of_other before k hs hk]; rfl

/-- R191: notices before and after do not hide one. -/
theorem Posts.of_parts {s u t : State} {n : Notice} {before after : List Notice} (hu : u.dpt = before.foldl Dpt.post s.dpt)
    (ht : t.dpt = after.foldl Dpt.post (u.dpt.post n)) : Posts s t n :=
  ⟨before ++ n :: after, by simp, by rw [List.foldl_append, List.foldl_cons, ← hu, ht]⟩

/-- R91: the sighting of the frame that passes ends, by the mark of its sender's record before the frame. -/
theorem ThroughPeers.sighting_ends {s t u : State} {tally : StationSet} {sender : Station} {heard : Option Payload} {k : Station}
    (h : ThroughPeers s t tally sender heard u) (hk : s.mbu.sighting = some k) :
    t.mbu.sighting = none ∧
      (1 ≤ k.val → k.val ≤ 30 →
        t.mbu.peers[k].foreign = true ∧
          (s.mbu.peers[k].foreign = false → t.mbu.lastConflict = k ∧ Posts s t (.mapConflict k)) ∧
          (s.mbu.peers[k].foreign = true → t.mbu.lastConflict = s.mbu.lastConflict)) ∧
      (¬(1 ≤ k.val ∧ k.val ≤ 30) → t.mbu.lastConflict = s.mbu.lastConflict) := by
  obtain ⟨hsighting, hlast⟩ := u.peersRead_sighting tally sender heard
  have hpeers := h.peersAfter
  have hafter := h.sightingAfter
  have hconflict := h.lastConflictAfter
  have htold := h.after
  rw [State.peersTaken_eq, h.peers] at hpeers hafter hconflict htold
  rw [h.sighting, hk] at hsighting
  rw [h.lastConflict] at hlast
  generalize hw : u.peersRead tally sender heard = w at hpeers hafter hconflict htold hsighting hlast
  refine ⟨by rw [hafter, State.sightingTaken_sighting], fun h1 h30 => ⟨?_, fun hmark => ?_, fun hmark => ?_⟩, fun hout => ?_⟩
  · rw [hpeers, State.sightingTaken_peers, hsighting]
    simp [h1, h30]
  · have hends := w.sightingTaken_of_unmarked s.mbu.peers k hsighting ⟨h1, h30⟩ hmark
    rw [hends] at hconflict htold
    obtain ⟨before, -, hbefore⟩ := h.before
    obtain ⟨after, -, hafter⟩ := htold
    have hread := u.peersRead_dpt tally sender heard
    rw [hw, hbefore, ← List.foldl_append] at hread
    exact ⟨hconflict, Posts.of_parts hread hafter⟩
  · rw [hconflict, w.sightingTaken_of_marked s.mbu.peers k hsighting ⟨h1, h30⟩ hmark]
    exact hlast
  · rw [hconflict, w.sightingTaken_of_other s.mbu.peers k hsighting hout]
    exact hlast

/-- Settles O16: each verdict by the equations of `State.sightingLost` and `State.sightingTaken`, and every taken frame by its passage through the peer
table. -/
theorem sightingsEndWithTheirFrame : Obligations.SightingsEndWithTheirFrame := by
  refine ⟨fun s k before => ⟨fun hnone => ⟨s.sightingLost_of_none hnone, s.sightingTaken_of_none before hnone⟩, fun hk => ?_⟩, ?_⟩
  · exact ⟨s.sightingLost_of_last k hk, s.sightingLost_of_new k hk,
      fun h1 h30 => s.sightingTaken_of_marked before k hk ⟨h1, h30⟩,
      fun h1 h30 => s.sightingTaken_of_unmarked before k hk ⟨h1, h30⟩, s.sightingTaken_of_other before k hk⟩
  · intro s l r kind slots k hr hstation hphase hline hrec hkind hveto hquorum hme hk
    obtain ⟨t, u, hexec, h⟩ :=
      exec_taken_throughPeers s l r kind slots ⟨hr, hphase, hline, hrec, hveto, hquorum, hme⟩ hstation hkind
    exact ⟨t, hexec, h.sighting_ends hk⟩

end Sys2Proof.Machine
end

section
/-! What a listening station makes of a taken frame of each class (R85 to R91). -/
namespace Sys2Proof.Machine

open Sys2Proof

/-! ## The listen state that a class leaves (R86 to R88) -/

theorem State.hear_of_good (s : State) (r : Received) (p : Payload) (w : Listen) (hcls : r.cls = .good) (hp : r.content = some p)
    (hw : s.mbu.listen = some w) :
    (s.hear r).mbu.listen = some { w with heard := true, agreed := r.frame.digest == digest s.ctu } ∧
      (s.hear r).ctu = learnPayload s.opr.map s.ctu (frameStation r.frame) p := by
  simp [State.hear, State.learn, State.setListen, hcls, hp, hw]

theorem State.hear_of_faulty (s : State) (r : Received) (w : Listen) (hcls : r.cls = .faulty) (hw : s.mbu.listen = some w) :
    (s.hear r).mbu.listen = some { w with timer := some (7 * s.bp), served := false, heard := false, agreed := false } ∧
      (s.hear r).ctu = s.ctu := by
  simp [State.hear, State.miss, State.setListen, hcls, hw, Config.listenBP]

theorem State.hear_of_foreign (s : State) (r : Received) (w : Listen) (hcls : r.cls = .foreign) (hw : s.mbu.listen = some w) :
    (s.hear r).mbu.listen = some { w with heard := true } ∧ (s.hear r).ctu = s.ctu := by
  simp [State.hear, State.setListen, hcls, hw]

theorem State.hear_station (s : State) (r : Received) : (s.hear r).mbu.station = s.mbu.station := by
  unfold State.hear
  split
  · split <;> rfl
  · rfl
  · rfl

/-! ## The completion test after it (R89) -/

theorem State.completionTest_of_incomplete (s : State) (w : Listen) (hw : s.mbu.listen = some w) (hc : w.complete = false) :
    s.completionTest = s := by
  rw [State.completionTest, hw, if_neg (by simp [hc])]

theorem State.completionTest_of_complete (s : State) (w : Listen) (hw : s.mbu.listen = some w) (hc : w.complete = true) :
    s.completionTest = s.announce := by
  rw [State.completionTest, hw, if_pos (by simp [hc])]

/-- R89: the peer table of a taken frame leaves the listen and station states. -/
theorem State.hear_peersTaken (s : State) (r : Received) (tally : StationSet) (heard : Option Payload) :
    ((s.hear r).peersTaken tally (frameStation r.frame) heard).mbu.listen = (s.hear r).mbu.listen ∧
      ((s.hear r).peersTaken tally (frameStation r.frame) heard).mbu.station = s.mbu.station := by
  have hcore := peersTaken_core (s.hear r) tally (frameStation r.frame) heard
  simp only [membershipCore, Prod.mk.injEq] at hcore
  obtain ⟨hlisten, hstation, -⟩ := hcore
  exact ⟨hlisten, hstation.trans (s.hear_station r)⟩

/-- R89: the station listens on. -/
theorem State.takenListening_of_incomplete (s : State) (r : Received) (tally : StationSet) (w : Listen)
    (hs : s.mbu.station = .listen) (hw : (s.hear r).mbu.listen = some w) (hc : w.complete = false) :
    (s.takenListening r tally).mbu.station = .listen ∧ (s.takenListening r tally).txq = s.txq ∧
      (s.takenListening r tally).mbu.listen = some w := by
  obtain ⟨hlisten, hstation⟩ := s.hear_peersTaken r tally (r.heardListening s.roster)
  rw [State.takenListening, State.completionTest_of_incomplete _ w (hlisten.trans hw) hc]
  exact ⟨hstation.trans hs, by simp, hlisten.trans hw⟩

/-- R92: the station announces. -/
theorem State.takenListening_of_complete (s : State) (r : Received) (tally : StationSet) (w : Listen)
    (hw : (s.hear r).mbu.listen = some w) (hc : w.complete = true) :
    (s.takenListening r tally).mbu.station = .announce ∧ (s.takenListening r tally).mbu.cause = .listenDone ∧
      (s.takenListening r tally).mbu.listen = none ∧ (s.takenListening r tally).mbu.beacon = some s.bp := by
  obtain ⟨hlisten, -⟩ := s.hear_peersTaken r tally (r.heardListening s.roster)
  have hopr : ((s.hear r).peersTaken tally (frameStation r.frame) (r.heardListening s.roster)).opr = s.opr := by simp
  obtain ⟨-, -, -, -, hbp, -⟩ := State.of_opr hopr
  rw [State.takenListening, State.completionTest_of_complete _ w (hlisten.trans hw) hc, announce_mbu, hbp]
  exact ⟨rfl, rfl, rfl, rfl⟩

theorem State.takenListening_ctu (s : State) (r : Received) (tally : StationSet) :
    (s.takenListening r tally).ctu = (s.hear r).ctu := by
  simp [State.takenListening]

/-- Settles O21: by the class, each with the listen state that it leaves (`State.hear_of_good` and the like) and the completion test. -/
theorem listenersLearnTakenFrames : Obligations.ListenersLearnTakenFrames := by
  intro s l r slots w hr hs hw hphase hline hrec hveto hquorum hme
  have hexec : ∀ kind, r.ofKind kind = true → _ := fun kind hkind =>
    exec_taken_of_listen s l r kind slots ⟨hr, hphase, hline, hrec, hveto, hquorum, hme⟩ hs hkind
  have hframe := (s.seekIdle 0).takenListening_frame r (slots &&& s.roster)
  obtain ⟨-, -, -, hrte, hmou, hpos, htoc, -⟩ := hframe
  have hctu := (s.seekIdle 0).takenListening_ctu r (slots &&& s.roster)
  have hincomplete := (s.seekIdle 0).takenListening_of_incomplete r (slots &&& s.roster)
  have hcomplete := (s.seekIdle 0).takenListening_of_complete r (slots &&& s.roster)
  refine ⟨fun p hp hcls => ?_, fun kind hkind => ⟨fun hcls => ?_, fun hcls => ?_⟩⟩
  · have hkind : r.ofKind p.kind = true := by simp [Received.ofKind, Received.kind, hp]
    obtain ⟨hlisten, hlearn⟩ := (s.seekIdle 0).hear_of_good r p w hcls hp hw
    refine ⟨_, hexec p.kind hkind, hctu.trans hlearn, hrte, hmou, hpos, htoc, fun hnot => ?_, fun hserved hagree => ?_⟩
    · refine hincomplete _ hs hlisten ?_
      simpa [Listen.complete, imp_iff_not_or, or_comm] using hnot
    · refine hcomplete _ hlisten ?_
      simpa [Listen.complete, hserved] using hagree
  · obtain ⟨hlisten, hkeep⟩ := (s.seekIdle 0).hear_of_faulty r w hcls hw
    obtain ⟨hstation, htxq, hafter⟩ := hincomplete _ hs hlisten rfl
    exact ⟨_, hexec kind hkind, hctu.trans hkeep, htxq, hrte, hmou, hpos, htoc, hstation, hafter⟩
  · obtain ⟨hlisten, hkeep⟩ := (s.seekIdle 0).hear_of_foreign r w hcls hw
    refine ⟨_, hexec kind hkind, hctu.trans hkeep, hrte, hmou, hpos, htoc, fun hnot => ?_, fun hserved hagree => ?_⟩
    · refine hincomplete _ hs hlisten ?_
      simpa [Listen.complete] using hnot
    · refine hcomplete _ hlisten ?_
      simp [Listen.complete, hserved, hagree]

end Sys2Proof.Machine
end

section
/-! What the peer table reads of a taken frame (R101, R103): its LAPSE and its BEACON, by their content or under a good CRC by the part that stands. -/
namespace Sys2Proof.Machine

open Sys2Proof

theorem stationHas_namedSet_iff (heard : Option Payload) (k : Station) :
    stationHas (namedSet heard) k = true ↔ ∃ set, heard = some (.lapse set) ∧ stationHas set k = true := by
  unfold namedSet
  split
  · exact ⟨fun h => ⟨_, rfl, h⟩, fun ⟨_, hset, h⟩ => by cases hset; exact h⟩
  · next hnot => exact ⟨fun h => by simp at h, fun ⟨set, hset, _⟩ => absurd hset (hnot set)⟩

theorem statedRole_eq_some_iff (heard : Option Payload) (role : Role) :
    statedRole heard = some role ↔ ∃ announce held blocked lies, heard = some (.beacon announce role held blocked lies) := by
  unfold statedRole
  split
  · constructor
    · rintro ⟨⟩
      exact ⟨_, _, _, _, rfl⟩
    · rintro ⟨_, _, _, _, h⟩
      cases h
      rfl
  · next hnot => exact ⟨nofun, fun ⟨_, _, _, _, h⟩ => absurd h (hnot _ _ _ _ _)⟩

/-- R50: the kind of a frame by its four bits. -/
theorem kindOf_toNat_eq_some_iff (b : BitVec 4) (kind : Kind) : kindOf b.toNat = some kind ↔ b = BitVec.ofNat 4 kind.code := by
  have hcode : kind.code < 2 ^ 4 := by cases kind <;> decide
  rw [kindOf_eq_some_iff, ← BitVec.toNat_inj, BitVec.toNat_ofNat, Nat.mod_eq_of_lt hcode]

/-- R101: the stations of the roster among the four bytes of a LAPSE. -/
theorem peerPart_eq_lapse_iff (roster : StationSet) (f : Frame) (set : StationSet) :
    peerPart roster f = some (.lapse set) ↔
      f.kind = BitVec.ofNat 4 (Kind.code .lapse) ∧
        ∃ b0 b1 b2 b3 : Byte, f.payload = [b0, b1, b2, b3] ∧ set = (b0 ++ b1 ++ b2 ++ b3) &&& roster := by
  rw [← kindOf_toNat_eq_some_iff]
  unfold peerPart
  split
  · next hkind _ => split <;> simp [hkind]
  · next b0 b1 b2 b3 hkind hbytes => simp [hkind, hbytes, eq_comm]
  · next hnot =>
    refine ⟨nofun, fun ⟨hkind, b0, b1, b2, b3, hbytes, _⟩ => (hnot b0 b1 b2 b3 hkind hbytes).elim⟩

/-- R103: the role of a sender that has a record, from the flags byte of a BEACON. -/
theorem statedRole_peerPart_iff (roster : StationSet) (f : Frame) (role : Role) :
    statedRole (peerPart roster f) = some role ↔
      f.kind = BitVec.ofNat 4 (Kind.code .beacon) ∧ 1 ≤ f.sender.toNat ∧ f.sender.toNat ≤ 30 ∧
        ∃ flags rest, f.payload = flags :: rest ∧ role = if flags.getMsbD 1 then .wayside else .carriage := by
  rw [← kindOf_toNat_eq_some_iff]
  unfold peerPart
  split
  · next flags rest hkind hbytes =>
    split
    · next hsender =>
      constructor
      · intro hrole
        exact ⟨hkind, hsender.1, hsender.2, flags, rest, hbytes, (Option.some.inj hrole).symm⟩
      · rintro ⟨-, -, -, flags', rest', hbytes', rfl⟩
        cases hbytes.symm.trans hbytes'
        rfl
    · next hsender => exact ⟨nofun, fun ⟨_, h1, h30, _⟩ => (hsender ⟨h1, h30⟩).elim⟩
  · next hkind _ => exact ⟨nofun, fun h => by simp [hkind] at h⟩
  · next hnot _ => exact ⟨nofun, fun ⟨hkind, _, _, flags, rest, hbytes, _⟩ => (hnot flags rest hkind hbytes).elim⟩

/-! ## The verdict TAKEN -/

/-- R88: a station learns of every taken frame that is no miss to it. -/
theorem State.heardOf_eq (s : State) (r : Received) :
    (Heard s r → s.heardOf r = r.heard s.roster) ∧ (¬Heard s r → s.heardOf r = none) := by
  unfold State.heardOf
  refine ⟨fun h => ?_, fun h => ?_⟩
  · split
    · rfl
    · next hoff => exact heardListening_eq _ _ (h.resolve_left hoff)
  · have hfaulty : r.cls = .faulty := by_contra fun hcls => h (Or.inr hcls)
    rw [if_neg fun honline => h (Or.inl honline), Received.heardListening, hfaulty]

/-- R101: the stations that a taken frame names. -/
theorem namedIn_iff (s : State) (r : Received) (k : Station) :
    NamedIn s r k ↔ stationHas (namedSet (s.heardOf r)) k = true := by
  by_cases hheard : Heard s r
  · rw [(s.heardOf_eq r).1 hheard, stationHas_namedSet_iff, NamedIn, and_iff_right hheard]
    cases hc : r.content with
    | some p => simp [heard_content s.roster r p hc]
    | none =>
      cases hcrc : frameCrcGood r.frame with
      | false => simp [Received.heard, hc, hcrc]
      | true =>
        rw [heard_part s.roster r hc hcrc]
        simp only [peerPart_eq_lapse_iff, reduceCtorEq, false_and, exists_false, false_or, true_and]
        constructor
        · rintro ⟨hkind, b0, b1, b2, b3, hbytes, hk, hroster⟩
          exact ⟨_, ⟨hkind, b0, b1, b2, b3, hbytes, rfl⟩, by simp [hk, hroster]⟩
        · rintro ⟨_, ⟨hkind, b0, b1, b2, b3, hbytes, rfl⟩, hk⟩
          rw [stationHas_and, Bool.and_eq_true] at hk
          exact ⟨hkind, b0, b1, b2, b3, hbytes, hk⟩
  · rw [(s.heardOf_eq r).2 hheard]
    exact ⟨fun h => absurd h.1 hheard, fun h => by simp [namedSet] at h⟩

/-- R103: the role that a taken frame states. -/
theorem roleIn_iff (s : State) (r : Received) (role : Role) : RoleIn s r role ↔ statedRole (s.heardOf r) = some role := by
  by_cases hheard : Heard s r
  · rw [(s.heardOf_eq r).1 hheard, RoleIn, and_iff_right hheard]
    cases hc : r.content with
    | some p => simp [heard_content s.roster r p hc, statedRole_eq_some_iff]
    | none =>
      cases hcrc : frameCrcGood r.frame with
      | false => simp [Received.heard, hc, hcrc, statedRole]
      | true =>
        rw [heard_part s.roster r hc hcrc, statedRole_peerPart_iff]
        simp
  · rw [(s.heardOf_eq r).2 hheard]
    exact ⟨fun h => absurd h.1 hheard, nofun⟩

/-- R99: the stations that a taken frame shows. -/
theorem seenIn_iff (s : State) (r : Received) (slots : StationSet) (k : Station) (hk : 1 ≤ k.val ∧ k.val ≤ 30) :
    SeenIn s r slots k ↔ k ∈ s.seenSet (slots &&& s.roster) (frameStation r.frame) := by
  rw [SeenIn, s.mem_seenSet_iff _ _ k hk, stationHas_and, Bool.and_eq_true]
  exact and_congr_right fun _ => and_congr_right fun hroster => or_congr_left (and_iff_left hroster).symm

end Sys2Proof.Machine
end

section
/-! A taken frame at the peer table, the LAPSE entry and the own lease (R78, R93, R94, R99, R101, R103). -/
namespace Sys2Proof.Machine

open Sys2Proof

/-! ## The peer table after the passage -/

section
variable {s t u : State} {tally : StationSet} {sender : Station} {heard : Option Payload}

/-- R99: the stations seen are those of the state before. -/
theorem ThroughPeers.seenSet_eq (h : ThroughPeers s t tally sender heard u) : u.seenSet tally sender = s.seenSet tally sender := by
  obtain ⟨-, hme, hroster, -⟩ := State.of_opr h.opr
  rw [State.seenSet, State.seenSet, hme, hroster]

/-- R99, R101: so are the records before the role is stated. -/
theorem ThroughPeers.peerShown_eq (h : ThroughPeers s t tally sender heard u) (k : Station) :
    u.peerShown tally sender heard k = s.peerShown tally sender heard k := by
  obtain ⟨-, hme, -, -, hbp, -⟩ := State.of_opr h.opr
  simp only [State.peerShown, h.seenSet_eq, h.peers, hme, State.seenPeer, State.remoteLease, hbp]

/-- R91, R99, R101, R103: each record after the frame. -/
theorem ThroughPeers.record (h : ThroughPeers s t tally sender heard u) (k : Station) :
    t.mbu.peers[k] =
      { s.peerShown tally sender heard k with
        role := if k = sender then (statedRole heard).or s.mbu.peers[k].role else s.mbu.peers[k].role
        foreign := (s.peerShown tally sender heard k).foreign ||
          decide (s.mbu.sighting = some k ∧ 1 ≤ k.val ∧ k.val ≤ 30) } := by
  obtain ⟨hsighting, -⟩ := u.peersRead_sighting tally sender heard
  rw [h.peersAfter, State.peersTaken_eq, State.sightingTaken_peers, hsighting, State.peersRead_peers, h.peerShown_eq, h.peers,
    h.sighting]

/-- R91: the foreign mark of a record whose station the sighting is not of. -/
theorem ThroughPeers.foreign (h : ThroughPeers s t tally sender heard u) (k : Station) (hk : s.mbu.sighting ≠ some k) :
    t.mbu.peers[k].foreign = (s.peerShown tally sender heard k).foreign := by
  rw [h.record k]
  simp [hk]

/-- R99, R101: the notices, with the PEER ones by their stations. -/
theorem ThroughPeers.notices (h : ThroughPeers s t tally sender heard u) :
    ∃ ns : List Notice, t.dpt = ns.foldl Dpt.post s.dpt ∧
      ∀ k presence, .peer k presence ∈ ns ↔ .peer k presence ∈ u.peerNotices tally sender heard := by
  have hsighting := State.told_sightingTaken (u.peersRead tally sender heard) u.mbu.peers
  rw [← State.peersTaken_eq] at hsighting
  obtain ⟨before, hbefore, hu⟩ := h.before
  obtain ⟨after, hafter, ht⟩ := hsighting.trans h.after
  have hnot : ∀ {ns : List Notice}, (∀ n ∈ ns, n.isPeer = false) → ∀ k presence, .peer k presence ∉ ns :=
    fun hns k presence hmem => nomatch hns _ hmem
  refine ⟨before ++ u.peerNotices tally sender heard ++ after, ?_, fun k presence => ?_⟩
  · rw [ht, u.peersRead_dpt, hu, List.foldl_append, List.foldl_append]
  · rw [List.mem_append, List.mem_append, or_iff_left (hnot hafter k presence), or_iff_right (hnot hbefore k presence)]

theorem ThroughPeers.peer_mem_iff (h : ThroughPeers s t tally sender heard u) (k : Station) (presence : Presence) :
    .peer k presence ∈ u.peerNotices tally sender heard ↔
      (k ∈ s.seenSet tally sender ∧ presence = .present ∧ s.mbu.peers[k].presence ≠ .present) ∨
      (k ∈ stationList (namedSet heard) ∧ presence = .lapsed ∧
        (k = s.me ∨ k ∈ s.seenSet tally sender ∨ s.mbu.peers[k].presence ≠ .lapsed)) := by
  obtain ⟨-, hme, -⟩ := State.of_opr h.opr
  rw [State.peer_mem_peerNotices_iff, h.seenSet_eq, h.peers, hme]

end

/-! ## The LAPSE entry after the frame (R78) -/

/-- R72: a request changes or makes the entry of its own key alone. -/
theorem Txq.mem_of_mem_request {q : Txq} {key : EntryKey} {args : Args} {e : TxEntry} (he : e ∈ (q.request key args).entries)
    (hne : e.key ≠ key) : e ∈ q.entries := by
  have hreplace : ∀ {k : EntryKey} {x : TxEntry}, e ∈ (q.replace k (some x)).entries → x.key = key → e ∈ q.entries := by
    intro k x he hx
    rcases Txq.mem_replace he with ⟨hmem, -⟩ | hsame
    · exact hmem
    · cases hsame
      exact absurd hx hne
  unfold Txq.request at he
  split at he
  · exact he
  · split at he
    · rcases List.mem_append.mp he with hmem | hnew
      · exact hmem
      · cases List.mem_singleton.mp hnew
        exact absurd rfl hne
    · next x hx =>
      have hkey : x.key = key := find_some_key hx
      split at he
      · exact he
      · split at he
        · exact hreplace he hkey
        · unfold Txq.addPending at he
          split at he
          · exact he
          · split at he
            · exact hreplace he hkey
            · exact hreplace he hkey

/-- R56: the events of a taken frame leave the entries of the other kinds. -/
theorem Txq.Asked.mem_of_not {q r : Txq} (h : q.Asked r) {e : TxEntry} (he : e ∈ r.entries) (hk : e.key.ofReport = false) :
    e ∈ q.entries := by
  induction h with
  | same => exact he
  | ask _ key args hkey ih =>
    exact ih (Txq.mem_of_mem_request he fun hsame => by rw [hsame, hkey] at hk; cases hk)

/-- R78: a station set without those that are withdrawn. -/
theorem Args.without_stations {args : Args} {set rest : StationSet} (h : args.without set = .stations rest) {k : Station}
    (hk : stationHas set k = true) : stationHas rest k = false := by
  unfold Args.without at h
  split at h
  · cases h
    rw [stationHas_diff, hk, Bool.not_true, Bool.and_false]
  · next hnot => exact absurd h (hnot rest)

/-- R78: the LAPSE entry does not name the stations that are withdrawn, nor does what waits beside its sent items. -/
theorem TxEntry.withoutStations_lapse {x e : TxEntry} {set : StationSet} (h : x.withoutStations set = some e) (hkey : e.key = .lapse)
    {k : Station} (hk : stationHas set k = true) :
    (∀ rest, e.flight = none → e.args = .stations rest → stationHas rest k = false) ∧
      ∀ f p rest, e.flight = some f → f.pending = some p → p.args = .stations rest → stationHas rest k = false := by
  rw [TxEntry.withoutStations, if_pos ((TxEntry.withoutStations_key_age h).1 ▸ hkey)] at h
  cases hflight : x.flight with
  | none =>
    simp only [hflight] at h
    split at h
    · cases h
    · cases h
      exact ⟨fun rest _ hargs => Args.without_stations hargs hk, fun f p rest hf => nomatch hf⟩
  | some g =>
    simp only [hflight] at h
    cases h
    refine ⟨nofun, fun f p rest hf hp hargs => ?_⟩
    cases hf
    have hmap := (Option.filter_eq_some_iff.mp hp).1
    obtain ⟨q, -, rfl⟩ := Option.map_eq_some_iff.mp hmap
    exact Args.without_stations hargs hk

/-- R78: the stations that leave the LAPSE entry. -/
theorem stationHas_withdrawnStations (tally : StationSet) (sender : Station) (heard : Option Payload) (k : Station) :
    stationHas (withdrawnStations tally sender heard) k = true ↔
      stationHas tally k = true ∨ sender = k ∨ stationHas (namedSet heard) k = true := by
  have hset : withdrawnStations tally sender heard = (tally ||| stationOne sender) ||| namedSet heard := rfl
  rw [hset, stationHas_or, stationHas_or, stationHas_one, Bool.or_eq_true, Bool.or_eq_true, decide_eq_true_eq, or_assoc]

/-- R56, R78: no event after the withdrawal asks for a LAPSE. -/
theorem State.endTaken_asked (s : State) (own : Bool) (content : Option Payload) : s.txq.Asked (s.endTaken own content).txq := by
  have hlease : s.txq.Asked (if s.isActive then s.startOwnLease else s).txq := by
    split <;> exact .same
  unfold State.endTaken
  dsimp only
  generalize (if s.isActive = true then s.startOwnLease else s) = u at hlease ⊢
  split
  · exact hlease.activate
  · exact hlease

/-- R78: the LAPSE entry after a taken frame does not name the stations that it shows or names. -/
theorem State.takenOnline_lapse (s : State) (own : Bool) (r : Received) (tally : StationSet) {e : TxEntry}
    (he : e ∈ (s.takenOnline own r tally).txq.entries) (hkey : e.key = .lapse) {k : Station}
    (hk : stationHas tally k = true ∨ frameStation r.frame = k ∨ stationHas (namedSet (r.heard s.roster)) k = true) :
    (∀ rest, e.flight = none → e.args = .stations rest → stationHas rest k = false) ∧
      ∀ f p rest, e.flight = some f → f.pending = some p → p.args = .stations rest → stationHas rest k = false := by
  rw [s.takenOnline_eq] at he
  have hmem := (State.endTaken_asked _ own r.content).mem_of_not he (by rw [hkey]; rfl)
  obtain ⟨x, -, hx⟩ := List.mem_filterMap.mp hmem
  exact TxEntry.withoutStations_lapse hx hkey ((stationHas_withdrawnStations _ _ _ k).mpr hk)

/-! ## The own lease and the own announce (R93, R94) -/

/-- R94: the peer table leaves the station state, its cause and the beacon timer. -/
theorem State.beforeEnd_mbu (s : State) (own : Bool) (r : Received) (tally set : StationSet) (heard : Option Payload) :
    (((s.tableTaken own r).peersTaken tally (frameStation r.frame) heard).withdrawStations set).mbu.station = s.mbu.station ∧
      (((s.tableTaken own r).peersTaken tally (frameStation r.frame) heard).withdrawStations set).mbu.beacon = s.mbu.beacon ∧
      (((s.tableTaken own r).peersTaken tally (frameStation r.frame) heard).withdrawStations set).bp = s.bp := by
  have hcore := peersTaken_core (s.tableTaken own r) tally (frameStation r.frame) heard
  obtain ⟨hopr, hmbu⟩ := s.tableTaken_frame own r
  simp only [membershipCore, hmbu, Prod.mk.injEq] at hcore
  obtain ⟨-, hstation, -, hbeacon, -⟩ := hcore
  have hopr' : (((s.tableTaken own r).peersTaken tally (frameStation r.frame) heard).withdrawStations set).opr = s.opr := by
    simp [State.withdrawStations, hopr]
  obtain ⟨-, -, -, -, hbp, -⟩ := State.of_opr hopr'
  exact ⟨hstation, hbeacon, hbp⟩

theorem State.takenOnline_of_active (s : State) (own : Bool) (r : Received) (tally : StationSet) (hs : s.mbu.station = .active) :
    (s.takenOnline own r tally).mbu.station = .active ∧ (s.takenOnline own r tally).mbu.ownLease = some (4 * s.bp) := by
  rw [s.takenOnline_eq, State.endTaken_mbu]
  obtain ⟨hstation, -, hbp⟩ := s.beforeEnd_mbu own r tally
    (withdrawnStations tally (frameStation r.frame) (r.heard s.roster)) (r.heard s.roster)
  rw [hstation, hbp, hs, if_neg (fun h => nomatch h.1), if_pos rfl]
  exact ⟨hstation.trans hs, rfl⟩

theorem State.takenOnline_of_ownAnnounce (s : State) (own : Bool) (r : Received) (tally : StationSet)
    (hs : s.mbu.station = .announce) (hown : ownAnnounce own r.content = true) :
    (s.takenOnline own r tally).mbu.station = .active ∧ (s.takenOnline own r tally).mbu.cause = .announceTaken ∧
      (s.takenOnline own r tally).mbu.ownLease = some (4 * s.bp) ∧ (s.takenOnline own r tally).mbu.beacon = s.mbu.beacon := by
  rw [s.takenOnline_eq, State.endTaken_mbu]
  obtain ⟨hstation, hbeacon, hbp⟩ := s.beforeEnd_mbu own r tally
    (withdrawnStations tally (frameStation r.frame) (r.heard s.roster)) (r.heard s.roster)
  rw [hstation, hbp, hs, if_pos ⟨rfl, hown⟩]
  exact ⟨rfl, rfl, rfl, hbeacon⟩

/-! ## A frame without content -/

/-- R88, R91: a listening station learns no table of it. -/
theorem State.hear_ctu_of_none (s : State) (r : Received) (hc : r.content = none) : (s.hear r).ctu = s.ctu := by
  unfold State.hear
  rw [hc]
  split <;> rfl

theorem exec_taken_ctu_of_none (s : State) (l : LineFrame) (r : Received) (kind : Kind) (slots : StationSet) (t : State)
    (hat : AtTaken s l r slots) (hstation : s.online = true ∨ s.mbu.station = .listen) (hkind : r.ofKind kind = true)
    (hexec : exec (takenInstr kind slots) s = .next t) (hc : r.content = none) : t.ctu = s.ctu := by
  rcases hstation with honline | hlisten
  · rw [exec_taken_of_online s l r kind slots hat honline hkind] at hexec
    cases hexec
    exact takenOnline_ctu_of_none _ _ r _ hc
  · rw [exec_taken_of_listen s l r kind slots hat hlisten hkind] at hexec
    cases hexec
    rw [State.takenListening_ctu, State.hear_ctu_of_none _ r hc]
    rfl

/-! ## The settlement -/

section
variable {s t u : State} {r : Received} {slots : StationSet} {k : Station}

/-- R99, R101: presence, lease and foreign mark of each record. -/
theorem ThroughPeers.presence (h : ThroughPeers s t (slots &&& s.roster) (frameStation r.frame) (s.heardOf r) u)
    (hk : 1 ≤ k.val ∧ k.val ≤ 30) :
    (SeenIn s r slots k → ¬NamedIn s r k →
      t.mbu.peers[k].presence = .present ∧ t.mbu.peers[k].lease = some (6 * s.bp) ∧
        (s.mbu.sighting ≠ some k → t.mbu.peers[k].foreign = false)) ∧
    (NamedIn s r k → k ≠ s.me → t.mbu.peers[k].presence = .lapsed ∧ t.mbu.peers[k].lease = none) ∧
    (¬SeenIn s r slots k → ¬NamedIn s r k ∨ k = s.me →
      t.mbu.peers[k].presence = s.mbu.peers[k].presence ∧ t.mbu.peers[k].lease = s.mbu.peers[k].lease ∧
        (s.mbu.sighting ≠ some k → t.mbu.peers[k].foreign = s.mbu.peers[k].foreign)) := by
  have hnamed : NamedIn s r k ↔ k ∈ stationList (namedSet (s.heardOf r)) := by
    rw [namedIn_iff, mem_stationList_iff, and_iff_right hk]
  rw [seenIn_iff s r slots k hk, hnamed]
  have hforeign := h.foreign k
  have hrecord := h.record k
  refine ⟨fun hseen hnot => ?_, fun hin hme => ?_, fun hunseen hnot => ?_⟩
  · have hshown : s.peerShown (slots &&& s.roster) (frameStation r.frame) (s.heardOf r) k = s.seenPeer s.mbu.peers[k] := by
      rw [State.peerShown, if_pos hseen, if_neg fun hin => hnot hin.1]
    rw [hshown] at hforeign hrecord
    exact ⟨by rw [hrecord]; rfl, by rw [hrecord]; rfl, hforeign⟩
  · have hshown : ∃ p : Peer, s.peerShown (slots &&& s.roster) (frameStation r.frame) (s.heardOf r) k = p.lapsed :=
      ⟨_, if_pos ⟨hin, hme⟩⟩
    obtain ⟨p, hp⟩ := hshown
    rw [hp] at hrecord
    exact ⟨by rw [hrecord]; rfl, by rw [hrecord]; rfl⟩
  · have hshown : s.peerShown (slots &&& s.roster) (frameStation r.frame) (s.heardOf r) k = s.mbu.peers[k] := by
      rw [State.peerShown, if_neg hunseen, if_neg fun hin => hnot.elim (fun h => h hin.1) hin.2]
    rw [hshown] at hforeign hrecord
    exact ⟨by rw [hrecord], by rw [hrecord], hforeign⟩

/-- R103: the roles. -/
theorem ThroughPeers.roles (h : ThroughPeers s t (slots &&& s.roster) (frameStation r.frame) (s.heardOf r) u) :
    (∀ role, RoleIn s r role → t.mbu.peers[frameStation r.frame].role = some role) ∧
      ∀ k : Station, (∀ role, RoleIn s r role → k ≠ frameStation r.frame) → t.mbu.peers[k].role = s.mbu.peers[k].role := by
  refine ⟨fun role hrole => ?_, fun k hk => ?_⟩
  · rw [h.record, (roleIn_iff s r role).mp hrole, if_pos rfl]
    rfl
  · rw [h.record]
    by_cases hsender : k = frameStation r.frame
    · have hnone : statedRole (s.heardOf r) = none :=
        Option.eq_none_iff_forall_ne_some.mpr fun role hrole => hk role ((roleIn_iff s r role).mpr hrole) hsender
      rw [if_pos hsender, hnone]
      rfl
    · rw [if_neg hsender]

/-- R99, R101: the PEER notices. -/
theorem ThroughPeers.posted (h : ThroughPeers s t (slots &&& s.roster) (frameStation r.frame) (s.heardOf r) u) :
    ∃ ns : List Notice, t.dpt = ns.foldl Dpt.post s.dpt ∧ ∀ k : Station, 1 ≤ k.val → k.val ≤ 30 →
      (.peer k .present ∈ ns ↔ SeenIn s r slots k ∧ s.mbu.peers[k].presence ≠ .present) ∧
      (.peer k .lapsed ∈ ns ↔ NamedIn s r k ∧ (k = s.me ∨ SeenIn s r slots k ∨ s.mbu.peers[k].presence ≠ .lapsed)) ∧
      .peer k .absent ∉ ns ∧ .peer k .lapsing ∉ ns := by
  obtain ⟨ns, hdpt, hns⟩ := h.notices
  refine ⟨ns, hdpt, fun k h1 h30 => ?_⟩
  have hnamed : NamedIn s r k ↔ k ∈ stationList (namedSet (s.heardOf r)) := by
    rw [namedIn_iff, mem_stationList_iff, and_iff_right ⟨h1, h30⟩]
  simp only [hns, h.peer_mem_iff, seenIn_iff s r slots k ⟨h1, h30⟩, hnamed, reduceCtorEq, true_and, false_and, and_false, or_false,
    false_or, not_false_eq_true, and_self]

end

/-- Settles O27: the peer table by the frame's passage through it (`exec_taken_throughPeers`), the LAPSE entry by `State.takenOnline_lapse`, the own lease
and the own announce by what a taken frame ends with. -/
theorem takenFramesRenewLeases : Obligations.TakenFramesRenewLeases := by
  intro s l r kind slots hat hstation hkind
  obtain ⟨t, u, hexec, h⟩ := exec_taken_throughPeers s l r kind slots hat hstation hkind
  obtain ⟨hrole, hothers⟩ := h.roles
  refine ⟨t, hexec, fun k h1 h30 => h.presence ⟨h1, h30⟩, hrole, hothers, h.posted,
    exec_taken_ctu_of_none s l r kind slots t hat hstation hkind hexec, fun honline => ?_⟩
  rw [exec_taken_of_online s l r kind slots hat honline hkind] at hexec
  cases hexec
  refine ⟨fun e he hkey k hk => ?_, (s.seekIdle 0).takenOnline_of_active _ r _, fun role held blocked lies hs hown hc => ?_⟩
  · have hheard : s.heardOf r = r.heard s.roster := (s.heardOf_eq r).1 (Or.inl honline)
    refine (s.seekIdle 0).takenOnline_lapse _ r _ he hkey ?_
    rw [namedIn_iff, hheard] at hk
    rwa [stationHas_and, Bool.and_eq_true]
  · exact (s.seekIdle 0).takenOnline_of_ownAnnounce _ r _ hs (by rw [hc, ownAnnounce, hown]; rfl)

end Sys2Proof.Machine
end

section
/-! RELEASE requests (R73, R74): a segment asked for is named by the queue's RELEASE entry, and what the planner asks for afterwards leaves it there. -/
namespace Sys2Proof.Machine

open Sys2Proof

/-! ## Sets of segments in argument sets -/

@[simp] theorem segHas_or (a b : SegSet) (i : Seg) : segHas (a ||| b) i = (segHas a i || segHas b i) := by simp [segHas]

@[simp] theorem segHas_diff (a b : SegSet) (i : Seg) : segHas (a &&& ~~~b) i = (segHas a i && !segHas b i) := by
  simp [segHas, i.isLt]

/-- R80: a set that has a segment is not empty. -/
theorem Args.segs_isEmpty_of_has {set : SegSet} {seg : Seg} (h : segHas set seg = true) : (Args.segs set).isEmpty = false := by
  cases hempty : (Args.segs set).isEmpty with
  | false => rfl
  | true =>
    have hzero : set = 0 := by simpa [Args.isEmpty] using hempty
    simp [hzero, segHas] at h

/-- R72: only a set of segments fits the RELEASE entry. -/
theorem segs_of_fitsKey_release {args : Args} (h : fitsKey .release args = true) : ∃ set, args = .segs set := by
  cases args with
  | segs set => exact ⟨set, rfl⟩
  | beacon | claim _ _ _ | stations _ | lie _ _ => exact nomatch h

/-! ## The RELEASE entry -/

/-- R73: what the RELEASE entry names goes by that entry alone. -/
theorem Releases.of_find {q r : Txq} {seg : Seg} (h : Releases q seg) (hfind : r.find .release = q.find .release) :
    Releases r seg := by
  rwa [Releases, hfind]

/-- R74: what is asked for beside items in flight is named by them or by the pending addition. -/
theorem Txq.Fitting.releases_addPending {q : Txq} (hq : q.Fitting) {e : TxEntry} {f : Flight} {set : SegSet} {seg : Seg}
    (he : q.find .release = some e) (hf : e.flight = some f) (hseg : segHas set seg = true) :
    Releases (q.addPending e f (.segs set)) seg := by
  have hkey : e.key = .release := find_some_key he
  obtain ⟨hargs, hpending⟩ := hq e (Txq.mem_of_find he)
  obtain ⟨sent, hsent⟩ := segs_of_fitsKey_release (hkey ▸ hargs)
  have hself : ∀ x : TxEntry, x.key = .release → (q.replace .release (some x)).find .release = some x := fun x hx =>
    q.find_replace_self .release x hx (by rw [he]; rfl)
  have hbeyond : (Args.segs sent).beyond (.segs set) = .segs (set &&& ~~~sent) := rfl
  have hnew : segHas sent seg = false → segHas (set &&& ~~~sent) seg = true := fun h => by simp [hseg, h]
  unfold Txq.addPending
  rw [hkey, hsent, hbeyond]
  cases hin : segHas sent seg with
  | true =>
    split
    · exact ⟨e, he, .inl ⟨sent, hsent, hin⟩⟩
    · split
      · exact ⟨_, hself _ rfl, .inl ⟨sent, rfl, hin⟩⟩
      · exact ⟨_, hself _ rfl, .inl ⟨sent, rfl, hin⟩⟩
  | false =>
    rw [if_neg (by simpa using Args.segs_isEmpty_of_has (hnew hin))]
    split
    · next p hp =>
      obtain ⟨old, hold⟩ := segs_of_fitsKey_release (hkey ▸ hpending f p hf hp)
      refine ⟨_, hself _ rfl, .inr ⟨_, _, rfl, rfl, old ||| (set &&& ~~~sent), ?_, ?_⟩⟩
      · simp [hold, Args.join]
      · rw [segHas_or, hnew hin, Bool.or_true]
    · exact ⟨_, hself _ rfl, .inr ⟨_, _, rfl, rfl, set &&& ~~~sent, rfl, hnew hin⟩⟩

/-- R73, R74: a RELEASE asked for is named by its entry. -/
theorem Txq.Fitting.releases_request {q : Txq} (hq : q.Fitting) {set : SegSet} {seg : Seg} (hseg : segHas set seg = true) :
    Releases (q.request .release (.segs set)) seg := by
  unfold Txq.request
  rw [if_neg (by simpa using Args.segs_isEmpty_of_has hseg)]
  cases he : q.find .release with
  | none =>
    refine ⟨{ key := .release, args := .segs set, age := q.nextAge, flight := none }, ?_, .inl ⟨set, rfl, hseg⟩⟩
    have hnone : q.entries.find? (fun e => e.key == .release) = none := he
    simp [Txq.find, Txq.create, List.find?_append, hnone]
  | some e =>
    have hkey : e.key = .release := find_some_key he
    dsimp only
    rw [if_neg (by decide)]
    split
    · obtain ⟨old, hold⟩ := segs_of_fitsKey_release (hkey ▸ (hq e (Txq.mem_of_find he)).1)
      refine ⟨_, q.find_replace_self .release _ hkey (by rw [he]; rfl), .inl ⟨old ||| set, ?_, ?_⟩⟩
      · simp [hold, Args.join]
      · rw [segHas_or, hseg, Bool.or_true]
    · next f hf => exact hq.releases_addPending he hf hseg

/-- R73: a station in ANNOUNCE or ACTIVE that asks for a RELEASE has its segments in the RELEASE entry. -/
theorem State.releases_requestRelease (s : State) (hargs : ArgsLaw s) (honline : s.online = true) {segs : List Seg} {seg : Seg}
    (hseg : seg ∈ segs) : Releases (s.requestRelease segs).txq seg := by
  have haccepts : s.txAccepts .release (.segs (segSetOf segs)) = true := by simp [State.txAccepts, honline]
  rw [State.requestRelease, State.txRequest_txq, if_pos haccepts]
  exact Txq.Fitting.releases_request hargs (by rw [segHas_setOf]; exact decide_eq_true hseg)

/-! ## The planner (R112, R114) -/

/-- R112, R114: the planner leaves what a placement won and a claim queued both leave. -/
theorem State.plan_keeps {γ : Type} (g : State → γ) (hwon : ∀ u : State, g u.placementWon = g u)
    (hclaim : ∀ (u : State) front rest, g (u.queueClaim front rest) = g u) (s : State) : g s.plan = g s := by
  have hdone : g (if s.placementDone then s.placementWon else s) = g s := by
    split
    · exact hwon s
    · rfl
  unfold State.plan
  dsimp only
  rw [← hdone]
  generalize (if s.placementDone = true then s.placementWon else s) = u
  split
  · split
    · rfl
    · exact hclaim u _ _
  · rfl

/-- R114: the planner asks for a claim alone. -/
theorem State.plan_find_release (s : State) : s.plan.txq.find .release = s.txq.find .release := by
  refine State.plan_keeps (·.txq.find .release) (fun u => by simp) (fun u front rest => ?_) s
  rw [State.queueClaim, State.setRte_txq, State.txRequest_txq]
  split
  · exact u.txq.find_request_of_ne _ _ _ (by decide)
  · rfl

theorem State.settle_find_release (s : State) : s.settle.txq.find .release = s.txq.find .release := by
  have htxq : s.settle.txq = s.plan.txq := by simp [State.settle]
  rw [htxq, s.plan_find_release]

/-- R108, R114: planner and offer rule leave the occupancy holds. -/
theorem State.settle_holds (s : State) : s.settle.rte.holds = s.rte.holds := by
  obtain ⟨serial, offer, hrefresh⟩ := refresh_rte s.plan
  rw [State.settle, hrefresh]
  exact State.plan_keeps (·.rte.holds) (fun u => by simp [State.placementWon]) (fun u front rest => by simp [State.queueClaim]) s

/-- R107, R114: they leave the step numbers. -/
theorem State.settle_nums (s : State) : s.settle.rte.route.map (·.num) = s.rte.route.map (·.num) := by
  obtain ⟨serial, offer, hrefresh⟩ := refresh_rte s.plan
  rw [State.settle, hrefresh]
  exact plan_nums s

end Sys2Proof.Machine
end

section
/-! The release of the tail (R123, R152): what planner, offer rule and the tests of a count leave of the placement and of the engine, and what the tail's
step or occupancy hold leaves behind. -/
namespace Sys2Proof.Machine

open Sys2Proof

/-! ## Where the carriage stands (R148) -/

/-- R148, R154: a placement with its creep count put aside, which a change of the engine's state restarts. -/
def Placement.still (p : Placement) : Placement := { p with creep := 0 }

theorem Pos.restartCreep_stands (p : Pos) : p.restartCreep.place.map Placement.still = p.place.map Placement.still := by
  rw [Pos.restartCreep, Option.map_map]
  rfl

/-- What a carriage that stands at a placement shows of it, its creep count aside. -/
theorem State.place_map_of_stands {s : State} {p : Placement} (h : s.pos.place.map Placement.still = some p.still) {α : Type}
    (f : Placement → α) (hf : ∀ q : Placement, f q.still = f q := by intro _; rfl) : s.pos.place.map f = some (f p) := by
  obtain ⟨q, hq, hstill⟩ := Option.map_eq_some_iff.mp h
  rw [hq, Option.map_some, ← hf q, hstill, hf p]

theorem State.head_of_stands {s : State} {p : Placement} (h : s.pos.place.map Placement.still = some p.still) :
    s.head = some p.head := State.place_map_of_stands h (·.head)

theorem State.tail_of_stands {s : State} {p : Placement} (h : s.pos.place.map Placement.still = some p.still) :
    s.tail = p.tail := by
  obtain ⟨q, hq, hstill⟩ := Option.map_eq_some_iff.mp h
  have htail : q.still.tail = p.still.tail := by rw [hstill]
  rw [State.tail, hq]
  exact htail

theorem State.setEngine_stands (s : State) (state : RteState) :
    (s.setEngine state).pos.place.map Placement.still = s.pos.place.map Placement.still := by
  rw [State.setEngine_pos]
  split
  · rfl
  · exact s.pos.restartCreep_stands

theorem State.halt_stands (s : State) (cause : StopCause) :
    (s.halt cause).pos.place.map Placement.still = s.pos.place.map Placement.still := by
  unfold State.halt
  split
  · simpa using s.setEngine_stands .halted
  · rfl

/-- R160: a position fault leaves the carriage where it stands. -/
theorem State.raiseFault_stands (s : State) (f : PosFault) :
    (s.raiseFault f).pos.place.map Placement.still = s.pos.place.map Placement.still := by
  rw [State.raiseFault, refresh_pos]
  exact State.halt_stands _ .position

/-! ## The planner and the offer rule (R114, R133) -/

/-- R112, R114: the planner leaves the carriage where it stands, and so does the offer rule after it. -/
theorem State.settle_stands (s : State) : s.settle.pos.place.map Placement.still = s.pos.place.map Placement.still := by
  rw [State.settle, refresh_pos]
  refine State.plan_keeps (·.pos.place.map Placement.still) (fun u => ?_) (fun u front rest => by simp) s
  simpa [State.placementWon] using u.setEngine_stands (if u.rte.locatedHalted then .halted else .parked)

/-! ## The tests of a count (R151, steps 4 to 6) -/

/-- R151: the tests leave what a position fault, the next duty and the creep count all leave. -/
theorem State.countTests_keeps {γ : Type} (g : State → γ) (hfault : ∀ (u : State) f, g (u.raiseFault f) = g u)
    (hduty : ∀ u : State, g u.refreshDuty = g u)
    (hcreep : ∀ (u : State) p, u.pos.place = some p → g (u.setPos { u.pos with place := some p.creepOn }) = g u) (s : State) :
    g s.countTests = g s := by
  unfold State.countTests
  split
  · rfl
  · next p hplace =>
    split
    · exact hfault s _
    · split
      · exact hduty s
      · rw [State.creepCount, hplace]
        dsimp only
        split
        · rw [hfault, hcreep s p hplace]
        · exact hcreep s p hplace

theorem State.countTests_route (s : State) : s.countTests.rte.route = s.rte.route := by
  refine State.countTests_keeps (·.rte.route) (fun u f => ?_) (fun u => by simp) (fun u p _ => rfl) s
  obtain ⟨-, hrte, -⟩ := raise_all u f
  rw [hrte]

theorem State.countTests_holds (s : State) : s.countTests.rte.holds = s.rte.holds := by
  refine State.countTests_keeps (·.rte.holds) (fun u f => ?_) (fun u => by simp) (fun u p _ => rfl) s
  obtain ⟨-, hrte, -⟩ := raise_all u f
  rw [hrte]

/-- R151: they leave the carriage where it stands. -/
theorem State.countTests_stands (s : State) : s.countTests.pos.place.map Placement.still = s.pos.place.map Placement.still :=
  State.countTests_keeps (·.pos.place.map Placement.still) State.raiseFault_stands (fun u => by simp)
    (fun u p hplace => by rw [State.setPos_pos, hplace]; rfl) s

/-! ## The tail given up (R123, R152) -/

/-- A request goes by what the state has beside its engine. -/
theorem State.setRte_requestRelease_txq (s : State) (r : Rte) (segs : List Seg) :
    ((s.setRte r).requestRelease segs).txq = (s.requestRelease segs).txq := by
  rw [State.requestRelease, State.requestRelease, State.txRequest_txq, State.txRequest_txq]
  rfl

theorem State.dropTailStep_rte_of_route (s : State) {st : Step} {rest : List Step} (h : s.rte.route = st :: rest) :
    s.dropTailStep.rte = { s.rte with route := rest } := by
  rw [State.dropTailStep, h]
  dsimp only
  split <;> simp

theorem State.dropTailStep_rte_of_noRoute (s : State) (h : s.rte.route = []) :
    s.dropTailStep.rte = { s.rte with holds := s.rte.holds.filter fun h => some h.seg != s.tail } := by
  rw [State.dropTailStep, h]
  simp

/-- R123: a RELEASE of the front step's segment, where it was held. -/
theorem State.dropTailStep_releases_of_route (s : State) (hargs : ArgsLaw s) (honline : s.online = true) {st : Step}
    {rest : List Step} (h : s.rte.route = st :: rest) (hheld : st.held = true) : Releases s.dropTailStep.txq st.seg := by
  rw [State.dropTailStep, h]
  dsimp only
  rw [if_pos hheld, State.setRte_requestRelease_txq]
  exact s.releases_requestRelease hargs honline (List.mem_singleton_self _)

/-- R152: with no route loaded, of the tail's occupancy hold. -/
theorem State.dropTailStep_releases_of_noRoute (s : State) (hargs : ArgsLaw s) (honline : s.online = true)
    (h : s.rte.route = []) {hold : Hold} (hmem : hold ∈ s.rte.holds) (htail : some hold.seg = s.tail) (hheld : hold.held = true) :
    Releases s.dropTailStep.txq hold.seg := by
  rw [State.dropTailStep, h]
  dsimp only
  rw [State.setRte_requestRelease_txq]
  exact s.releases_requestRelease hargs honline (List.mem_map.mpr ⟨hold, by simp [hmem, htail, hheld], rfl⟩)

/-! ## The release of the tail (R152) -/

theorem State.releaseTail_find_release (s : State) : s.releaseTail.txq.find .release = s.dropTailStep.txq.find .release :=
  State.settle_find_release _

theorem State.releaseTail_nums (s : State) : s.releaseTail.rte.route.map (·.num) = s.dropTailStep.rte.route.map (·.num) :=
  State.settle_nums _

theorem State.releaseTail_holds (s : State) : s.releaseTail.rte.holds = s.dropTailStep.rte.holds := State.settle_holds _

/-- R152: the carriage stands on its head segment alone; the last boundary is kept. -/
theorem State.releaseTail_stands (s : State) :
    s.releaseTail.pos.place.map Placement.still = (s.pos.place.map Placement.dropTail).map Placement.still := by
  exact (State.settle_stands _).trans (by simp)

end Sys2Proof.Machine
end

section
/-! Odometer counts (R150 to R154): the tests of a count, what a count makes of the state, and the count that clears the tail (R123, R152). -/
namespace Sys2Proof.Machine

open Sys2Proof

/-! ## The tests (R151, steps 4 to 6) -/

section

variable {s : State} {p : Placement}

/-- R153: the head has run past its segment and the margin. -/
theorem State.countTests_of_missed (hplace : s.pos.place = some p)
    (hpast : (s.seg p.head).length + s.option (·.overrunMargin) < p.offset) :
    s.countTests = s.raiseFault { cause := .missingTag, first := p.head.val, second := p.offset } := by
  rw [State.countTests, hplace]
  exact if_pos (decide_eq_true hpast)

theorem State.countTests_of_within (hplace : s.pos.place = some p)
    (hin : p.offset ≤ (s.seg p.head).length + s.option (·.overrunMargin)) :
    s.countTests = if s.rte.state = .moving then s.refreshDuty else s.creepCount := by
  rw [State.countTests, hplace]
  exact if_neg (by simpa [State.tagMissed] using hin)

/-- R144: a moving carriage within its segment has the next duty computed. -/
theorem State.countTests_of_moving (hplace : s.pos.place = some p)
    (hin : p.offset ≤ (s.seg p.head).length + s.option (·.overrunMargin)) (hmoving : s.rte.state = .moving) :
    s.countTests = s.refreshDuty := by
  rw [State.countTests_of_within hplace hin, if_pos hmoving]

/-- R154: one that is to stand still creeps, within the limit. -/
theorem State.countTests_of_creep (hplace : s.pos.place = some p)
    (hin : p.offset ≤ (s.seg p.head).length + s.option (·.overrunMargin)) (hstill : s.rte.state ≠ .moving)
    (hlimit : p.creep < s.option (·.creepLimit)) : s.countTests = s.setPos { s.pos with place := some p.creepOn } := by
  rw [State.countTests_of_within hplace hin, if_neg hstill, State.creepCount, hplace]
  exact if_neg (by simpa [State.creptPast, Placement.creepOn] using hlimit)

/-- R154: it creeps past the limit. -/
theorem State.countTests_of_creptPast (hplace : s.pos.place = some p)
    (hin : p.offset ≤ (s.seg p.head).length + s.option (·.overrunMargin)) (hstill : s.rte.state ≠ .moving)
    (hlimit : s.option (·.creepLimit) ≤ p.creep) :
    s.countTests = (s.setPos { s.pos with place := some p.creepOn }).raiseFault
      { cause := .creep, first := p.head.val, second := p.creep + 1 } := by
  rw [State.countTests_of_within hplace hin, if_neg hstill, State.creepCount, hplace]
  exact if_pos (by simpa [State.creptPast, Placement.creepOn, Nat.lt_succ_iff] using hlimit)

end

/-! ## The count (R150, R151) -/

/-- R150: the fall of the filtered level. -/
theorem exec_filteredOdometerFall_of_tracking (s : State) (hr : s.inReset = false) (ht : s.tracking = true) :
    exec .filteredOdometerFall s = .next (s.setPos { s.pos with odometer := false }) :=
  (live_next _ s hr).trans (by rw [State.odometerFall, if_pos ht])

/-- R150: a rise of a level that is high (log entry 2). -/
theorem exec_odometerCount_of_high (s : State) (hr : s.inReset = false) (hhigh : s.pos.odometer = true) :
    exec .odometerCount s = .next s :=
  (live_next _ s hr).trans (by rw [State.odometerRise, if_neg (by simp [hhigh])])

/-- R150: the filtered level rises, and the tracker counts. -/
theorem exec_odometerCount_of_low (s : State) (hr : s.inReset = false) (ht : s.tracking = true) (hlow : s.pos.odometer = false) :
    exec .odometerCount s = .next (s.setPos { s.pos with odometer := true }).count :=
  (live_next _ s hr).trans (by rw [State.odometerRise, if_pos (by simp [ht, hlow])])

/-- R151: the state after the first two steps of a count at a placement. -/
def State.counted (s : State) (p : Placement) : State := s.setPos { s.pos with odometer := true, place := some p.count }

section

variable (s : State) (p : Placement) (hr : s.inReset = false) (ht : s.tracking = true) (hlow : s.pos.odometer = false)
include hr ht hlow

/-- R151 step 1: a carriage that is not placed. -/
theorem exec_odometerCount_of_unplaced (hplace : s.pos.place = none) :
    exec .odometerCount s = .next (s.setPos { s.pos with odometer := true }) := by
  rw [exec_odometerCount_of_low s hr ht hlow, State.count, State.setPos_pos]
  dsimp only
  rw [hplace]

/-- R151: a carriage that is placed. -/
theorem exec_odometerCount_of_placed (hplace : s.pos.place = some p) :
    exec .odometerCount s = .next
      (if s.pos.fault.isSome then s.counted p
        else if (s.counted p).tailCleared p.count then (s.counted p).releaseTail.countTests else (s.counted p).countTests) := by
  rw [exec_odometerCount_of_low s hr ht hlow, State.count, State.setPos_pos]
  dsimp only
  rw [hplace]
  rfl

/-- R151 step 1: with a position fault outstanding the count raises the offset alone. -/
theorem exec_odometerCount_of_fault (hplace : s.pos.place = some p) (hfault : s.pos.fault.isSome) :
    exec .odometerCount s = .next (s.counted p) := by
  rw [exec_odometerCount_of_placed s p hr ht hlow hplace, if_pos hfault]

/-- R151 step 3: no tail is cleared. -/
theorem exec_odometerCount_of_tail (hplace : s.pos.place = some p) (hfault : s.pos.fault = none)
    (htail : p.tail.isSome → p.count.offset < s.option (·.carriageLength)) :
    exec .odometerCount s = .next (s.counted p).countTests := by
  have hkeeps : (s.counted p).tailCleared p.count = false := by
    rw [State.tailCleared, Bool.and_eq_false_imp]
    exact fun h => decide_eq_false (Nat.not_le.mpr (htail h))
  rw [exec_odometerCount_of_placed s p hr ht hlow hplace, hfault, hkeeps]
  rfl

/-- R151 step 3: the tail is cleared. -/
theorem exec_odometerCount_of_cleared (hplace : s.pos.place = some p) (hfault : s.pos.fault = none) (htail : p.tail.isSome)
    (hlength : s.option (·.carriageLength) ≤ p.count.offset) :
    exec .odometerCount s = .next (s.counted p).releaseTail.countTests := by
  have hcleared : (s.counted p).tailCleared p.count = true := Bool.and_eq_true_iff.mpr ⟨htail, decide_eq_true hlength⟩
  rw [exec_odometerCount_of_placed s p hr ht hlow hplace, hfault, hcleared]
  rfl

end

/-- R108: the head step goes by the route and the head. -/
theorem State.headNum_congr {s t : State} (hroute : t.rte.route = s.rte.route) (hhead : t.head = s.head) :
    t.headNum = s.headNum := by
  rw [State.headNum, State.headNum, State.headStep, State.headStep, hroute, hhead]

/-- Settles O42: the count's own equation in each case, and what a position fault does (`raise_all`). -/
theorem odometerCounts : Obligations.OdometerCounts := by
  intro s hr ht
  refine ⟨exec_filteredOdometerFall_of_tracking s hr ht, exec_odometerCount_of_high s hr,
    exec_odometerCount_of_unplaced s hr ht, fun p q hlow hplace hq => ?_⟩
  obtain rfl : q = p.count := hq
  have hcounted : (s.counted p).pos.place = some p.count := rfl
  refine ⟨exec_odometerCount_of_fault s p hr ht hlow hplace, fun hfault htail hin => ?_, fun hfault htail hpast => ?_⟩
  · have hexec := exec_odometerCount_of_tail s p hr ht hlow hplace hfault htail
    refine ⟨fun hmoving => ⟨_, hexec, ?_⟩, fun hstill hlimit => ?_, fun hstill hlimit => ?_⟩
    · rw [State.countTests_of_moving hcounted hin hmoving]
      rfl
    · rw [hexec, State.countTests_of_creep hcounted hin hstill hlimit]
      rfl
    · rw [State.countTests_of_creptPast hcounted hin hstill hlimit] at hexec
      obtain ⟨hmou, hrte, hdpt, htxq, -, -, -, hpos⟩ := raise_all ((s.counted p).setPos
        { (s.counted p).pos with place := some p.count.creepOn }) { cause := .creep, first := p.head.val, second := p.creep + 1 }
      refine ⟨_, hexec, hpos hstill, hmou, hrte.trans ?_, htxq, hdpt.trans (if_neg hstill)⟩
      exact congrArg (fun state => { s.rte with offer := none, state := state }) (if_neg hstill)
  · obtain ⟨hmou, hrte, hdpt, htxq, hfaulted, -, hoffset, -⟩ :=
      raise_all (s.counted p) { cause := .missingTag, first := p.head.val, second := p.count.offset }
    have hexec := exec_odometerCount_of_tail s p hr ht hlow hplace hfault htail
    rw [State.countTests_of_missed hcounted hpast] at hexec
    have hnum : (s.counted p).headNum = s.headNum :=
      State.headNum_congr rfl (by rw [State.head, State.head, hcounted, hplace]; rfl)
    rw [hnum] at hdpt
    exact ⟨_, hexec, hfaulted, hoffset, hmou, hrte, htxq, hdpt⟩

/-- Settles O43: the release leaves the tail's step or hold behind (`State.dropTailStep_rte_of_route`, `State.dropTailStep_rte_of_noRoute`), and neither the
planner after it nor the tests of the count touch what it says. -/
theorem tailIsReleased : Obligations.TailIsReleased := by
  intro s p hr ht hlow hplace htail hfault htop hlength hargs
  have hoffset : p.count.offset = p.offset + 1 := Nat.min_eq_left htop
  have hexec := exec_odometerCount_of_cleared s p hr ht hlow hplace hfault htail (hoffset ▸ hlength)
  generalize hu : s.counted p = u at hexec
  have hrte : u.rte = s.rte := by rw [← hu]; rfl
  have honline : u.online = s.online := by rw [← hu]; rfl
  have hargs : ArgsLaw u := by rw [← hu]; exact hargs
  have hutail : u.tail = p.tail := by rw [← hu]; rfl
  have hstands : u.releaseTail.countTests.pos.place.map Placement.still = some p.count.dropTail.still := by
    rw [State.countTests_stands, State.releaseTail_stands, ← hu]
    rfl
  have hreleases : ∀ seg, Releases u.dropTailStep.txq seg → Releases u.releaseTail.countTests.txq seg := fun seg h =>
    h.of_find (by simp [State.releaseTail_find_release])
  have hnums : u.releaseTail.countTests.rte.route.map (·.num) = u.dropTailStep.rte.route.map (·.num) := by
    rw [State.countTests_route, State.releaseTail_nums]
  have hhead : u.releaseTail.countTests.head = some p.count.dropTail.head := State.head_of_stands hstands
  have hboundary : u.releaseTail.countTests.pos.place.map (·.boundary) = some p.count.dropTail.boundary :=
    State.place_map_of_stands hstands (·.boundary)
  have hcounted : u.releaseTail.countTests.pos.place.map (·.offset) = some (p.offset + 1) :=
    hoffset ▸ State.place_map_of_stands hstands (·.offset)
  refine ⟨_, hexec, State.tail_of_stands hstands, hhead, hcounted, hboundary, fun st rest hroute => ?_, fun hroute => ?_⟩
  · rw [← hrte] at hroute
    rw [hnums, u.dropTailStep_rte_of_route hroute]
    exact ⟨rfl, fun hheld hon => hreleases _ (u.dropTailStep_releases_of_route hargs (honline.trans hon) hroute hheld)⟩
  · rw [← hrte] at hroute
    have hdrop := u.dropTailStep_rte_of_noRoute hroute
    refine ⟨?_, ?_, fun hold hmem hseg hheld hon => ?_⟩
    · rw [hdrop, hroute] at hnums
      exact List.map_eq_nil_iff.mp hnums
    · rw [State.countTests_holds, State.releaseTail_holds, hdrop, hrte, hutail]
    · exact hreleases _ (u.dropTailStep_releases_of_noRoute hargs (honline.trans hon) hroute (hrte ▸ hmem)
        (hseg.trans hutail.symm) hheld)

end Sys2Proof.Machine
end

section
/-! Tags (R155 to R160): which tags the tracker reads, the faults of a good tag, and the head advance (R157, R158) with the tail released before it. -/
namespace Sys2Proof.Machine

open Sys2Proof

/-! ## Which tags are read (R155) -/

theorem exec_tagReceived (s : State) (start : Bool) (bits : BitVec 16) (stop : Bool) (hr : s.inReset = false) :
    exec (.tagReceived start bits stop) s = .next (s.tagRead start bits stop) :=
  live_next (fun s => s.tagRead start bits stop) s hr

theorem State.tagRead_of_start (s : State) (bits : BitVec 16) (stop : Bool) : s.tagRead true bits stop = s := by
  rw [State.tagRead, if_pos (by simp)]

section

variable {s : State} {bits : BitVec 16} {stop : Bool} (ht : s.tracking = true)
include ht

theorem State.tagRead_of_bad (hbad : tagBad bits stop = true) : s.tagRead false bits stop = s.badTag bits := by
  rw [State.tagRead, if_neg (by simp [ht]), if_pos hbad]

/-- R155: a good tag before a placement, or with a position fault outstanding. -/
theorem State.tagRead_of_ignored (hgood : tagBad bits stop = false) (h : s.pos.place = none ∨ s.pos.fault.isSome) :
    s.tagRead false bits stop = s := by
  rw [State.tagRead, if_neg (by simp [ht]), if_neg (by simp [hgood])]
  split
  · next p hplace => rw [if_pos (h.resolve_left (by simp [hplace]))]
  · rfl

theorem State.tagRead_of_good {p : Placement} (hgood : tagBad bits stop = false) (hplace : s.pos.place = some p)
    (hfault : s.pos.fault = none) : s.tagRead false bits stop = s.goodTag p (tagFrom bits, tagTo bits) := by
  rw [State.tagRead, if_neg (by simp [ht]), if_neg (by simp [hgood]), hplace]
  exact if_neg (by simp [hfault])

end

/-! ## Good tags (R156 to R159) -/

section

variable {s : State} {p : Placement} {tag : Seg × Seg}

theorem State.goodTag_of_repeat (h : (p.boundary.any fun b => samePair tag b) = true) : s.goodTag p tag = s := if_pos h

theorem State.goodTag_of_match (h : (p.boundary.any fun b => samePair tag b) = false) (hmoving : s.rte.state = .moving)
    {next : Step} (hmatch : s.matched tag = some next) (hcommitted : next.committed = true) :
    s.goodTag p tag = s.advance next := by
  simp [State.goodTag, h, hmoving, hmatch, hcommitted]

/-- R157, R159: the position fault that a good tag other than a repeat is, by the engine's state and the tag's class. -/
theorem State.goodTag_of_fault (h : (p.boundary.any fun b => samePair tag b) = false) (cause : FaultCause)
    (hcause : (s.rte.state ≠ .moving ∧ cause = .unexpectedTag) ∨
      (s.rte.state = .moving ∧ s.matched tag = none ∧ cause = .wrongTag) ∨
      (s.rte.state = .moving ∧ (∃ next, s.matched tag = some next ∧ next.committed = false) ∧ cause = .overrun)) :
    s.goodTag p tag = s.raiseFault { cause := cause, first := tag.1.val, second := tag.2.val } := by
  unfold State.goodTag
  rw [if_neg (by simp [h])]
  rcases hcause with ⟨hstill, rfl⟩ | ⟨hmoving, hnone, rfl⟩ | ⟨hmoving, ⟨next, hmatch, hcommitted⟩, rfl⟩
  · rw [if_neg hstill]
  · rw [if_pos hmoving, hnone]
  · rw [if_pos hmoving, hmatch]
    exact if_neg (by simp [hcommitted])

/-- R156: a match is with the step after the head step. -/
theorem State.nextStep_of_matched {next : Step} (hmatch : s.matched tag = some next) : s.nextStep = some next := by
  unfold State.matched at hmatch
  split at hmatch
  · next hnext =>
    split at hmatch
    · rw [← hmatch, hnext]
    · cases hmatch
  · cases hmatch

/-- R156: so that the route has at least two steps, the head step and the next. -/
theorem State.rest_ne_nil_of_matched {next st : Step} {rest : List Step} (hmatch : s.matched tag = some next)
    (hroute : s.rte.route = st :: rest) : rest ≠ [] := by
  rintro rfl
  have hnext := State.nextStep_of_matched hmatch
  unfold State.nextStep at hnext
  split at hnext
  · next num hnum =>
    obtain ⟨headStep, hhead, rfl⟩ := Option.map_eq_some_iff.mp hnum
    have hafter := List.find?_some hnext
    have hnextMem := List.mem_of_find?_eq_some hnext
    have hheadMem := List.mem_of_find?_eq_some hhead
    rw [hroute, List.mem_singleton] at hnextMem hheadMem
    simp [hnextMem, hheadMem] at hafter
  · cases hnext

end

/-- R108: which step is the final one goes by the step numbers. -/
theorem Rte.isFinal_eq (r : Rte) (num : Nat) : r.isFinal num = ((r.route.map (·.num)).getLast?).any (· == num) := by
  rw [Rte.isFinal, List.getLast?_map, Option.any_map]

/-! ## A moving engine that moves on (R158) -/

/-- R132, R144, R158: a MOVING engine is MOVING still, with its committed limit; of the motion outputs the next duty alone is new, and notices may have been
posted. -/
structure MovesOn (s t : State) : Prop where
  state : t.rte.state = .moving
  limit : t.rte.committedLimit = s.rte.committedLimit
  mou : t.mou = { s.mou with next := t.mou.next }
  told : s.Told t

namespace MovesOn

variable {s u t : State}

theorem refl (h : s.rte.state = .moving) : MovesOn s s := ⟨h, rfl, rfl, .same rfl⟩

theorem same (h : MovesOn s u) (hstate : t.rte.state = u.rte.state) (hlimit : t.rte.committedLimit = u.rte.committedLimit)
    (hmou : t.mou = u.mou) (hdpt : t.dpt = u.dpt) : MovesOn s t :=
  ⟨hstate.trans h.state, hlimit.trans h.limit, by rw [hmou, ← h.mou], h.told.keep hdpt⟩

theorem setPos (h : MovesOn s u) (p : Pos) : MovesOn s (u.setPos p) := h.same rfl rfl rfl rfl

theorem settle (h : MovesOn s u) : MovesOn s u.settle := by
  have hdone : u.placementDone = false := notPlacing_done u (by simp [h.state])
  obtain ⟨_, _, _, _, _, _, hrte⟩ := settle_rte u hdone
  refine ⟨by rw [hrte, h.state], by rw [hrte, h.limit], ?_, h.told.settle⟩
  rw [(settle_mou u hdone).1, h.mou]

theorem settle_pos (h : MovesOn s u) : u.settle.pos = u.pos :=
  (settle_mou u (notPlacing_done u (by simp [h.state]))).2.1

end MovesOn

/-! ## The tail released before the advance (R157, log entry 22) -/

/-- R152: giving up the tail's step or hold changes of the engine the route and the holds alone. -/
theorem State.dropTailStep_rte (s : State) : ∃ route holds, s.dropTailStep.rte = { s.rte with route := route, holds := holds } := by
  cases hroute : s.rte.route with
  | nil => exact ⟨_, _, s.dropTailStep_rte_of_noRoute hroute⟩
  | cons st rest => exact ⟨_, _, s.dropTailStep_rte_of_route hroute⟩

theorem MovesOn.dropTailStep {s : State} (h : s.rte.state = .moving) : MovesOn s s.dropTailStep := by
  obtain ⟨route, holds, hrte⟩ := s.dropTailStep_rte
  exact (MovesOn.refl h).same (by rw [hrte]) (by rw [hrte]) (by simp) (by simp)

/-- R157: the state a head advances from, with no tail. -/
def State.departing (s : State) : State := if s.tail.isSome then s.releaseTail else s

theorem State.departing_of_tail {s : State} (h : s.tail.isSome) : s.departing = s.releaseTail := if_pos h

theorem State.departing_of_noTail {s : State} (h : s.tail = none) : s.departing = s := if_neg (by simp [h])

section

variable {s : State} (hmoving : s.rte.state = .moving)
include hmoving

theorem State.departing_movesOn : MovesOn s s.departing := by
  cases htail : s.tail with
  | none => rw [State.departing_of_noTail htail]; exact .refl hmoving
  | some seg =>
    rw [State.departing_of_tail (by simp [htail])]
    exact ((MovesOn.dropTailStep hmoving).setPos _).settle

theorem State.departing_pos {p : Placement} (hplace : s.pos.place = some p) :
    s.departing.pos = { s.pos with place := some p.dropTail } := by
  cases htail : s.tail with
  | none =>
    have hnone : p.tail = none := by simpa [State.tail, hplace] using htail
    rw [State.departing_of_noTail htail, show p.dropTail = p by rw [Placement.dropTail, ← hnone], ← hplace]
  | some seg =>
    have hdropped : MovesOn s (s.dropTailStep.setPos
        { s.dropTailStep.pos with place := s.dropTailStep.pos.place.map Placement.dropTail }) :=
      (MovesOn.dropTailStep hmoving).setPos _
    rw [State.departing_of_tail (by simp [htail]), State.releaseTail]
    exact hdropped.settle_pos.trans (by simp [hplace])

end

/-- R156, R158: the final step stays the final step, since the tail's step is not the last one. -/
theorem State.departing_isFinal {s : State} {tag : Seg × Seg} {next : Step} (hmatch : s.matched tag = some next) (num : Nat) :
    s.departing.rte.isFinal num = s.rte.isFinal num := by
  cases htail : s.tail with
  | none => rw [State.departing_of_noTail htail]
  | some seg =>
    rw [State.departing_of_tail (by simp [htail]), Rte.isFinal_eq, Rte.isFinal_eq, s.releaseTail_nums]
    cases hroute : s.rte.route with
    | nil => rw [s.dropTailStep_rte_of_noRoute hroute, hroute]
    | cons st rest =>
      obtain ⟨second, more, rfl⟩ := List.exists_cons_of_ne_nil (State.rest_ne_nil_of_matched hmatch hroute)
      rw [s.dropTailStep_rte_of_route hroute]
      rfl

/-! ## The head advance (R157, R158) -/

/-- R157: the departing state with the head in its new segment. -/
def State.entered (s : State) (seg : Seg) : State :=
  s.departing.setPos { s.departing.pos with place := s.departing.pos.place.map fun p => p.advance seg }

theorem State.advance_eq (s : State) (next : Step) :
    s.advance next = (s.entered next.seg).settle.postIf (s.departing.rte.isFinal next.num) (.arriving next.num next.seg) := rfl

theorem State.entered_rte (s : State) (seg : Seg) : (s.entered seg).rte = s.departing.rte := rfl

theorem State.entered_txq (s : State) (seg : Seg) : (s.entered seg).txq = s.departing.txq := rfl

theorem State.advance_nums (s : State) (next : Step) :
    (s.advance next).rte.route.map (·.num) = s.departing.rte.route.map (·.num) := by
  simp only [s.advance_eq, State.postIf_frame, State.settle_nums, State.entered_rte]

theorem State.advance_find_release (s : State) (next : Step) :
    (s.advance next).txq.find .release = s.departing.txq.find .release := by
  simp only [s.advance_eq, State.postIf_frame, State.settle_find_release, State.entered_txq]

/-- R142: the duty goes by what the motion outputs do not compute. -/
theorem State.refreshDuty_duty (s : State) : s.refreshDuty.duty = s.duty := rfl

theorem State.settle_next (s : State) : s.settle.mou.next = s.settle.duty := by
  rw [State.settle, State.refresh, State.refreshDuty_duty, State.refreshDuty_mou]

theorem State.postIf_duty (s : State) (b : Bool) (n : Notice) : (s.postIf b n).duty = s.duty := by cases b <;> rfl

/-- R144: the next duty is computed anew. -/
theorem State.advance_next (s : State) (next : Step) : (s.advance next).mou.next = (s.advance next).duty := by
  simp only [s.advance_eq, State.postIf_frame, State.postIf_duty, State.settle_next]

section

variable {s : State} (hmoving : s.rte.state = .moving)
include hmoving

theorem State.advance_movesOn (next : Step) : MovesOn s (s.advance next) := by
  have hsettled : MovesOn s (s.entered next.seg).settle := ((State.departing_movesOn hmoving).setPos _).settle
  rw [s.advance_eq]
  exact ⟨by simpa using hsettled.state, by simpa using hsettled.limit, by simpa using hsettled.mou, hsettled.told.postIf _ _⟩

/-- R157: the old head segment is the tail, and the boundary just crossed the last one. -/
theorem State.advance_pos {p : Placement} (hplace : s.pos.place = some p) (next : Step) :
    (s.advance next).pos = { s.pos with place := some (p.advance next.seg) } := by
  have hentered : MovesOn s (s.entered next.seg) := (State.departing_movesOn hmoving).setPos _
  have hpos : (s.entered next.seg).pos = { s.pos with place := some (p.advance next.seg) } := by
    rw [State.entered, State.setPos_pos, State.departing_pos hmoving hplace]
    rfl
  simp only [s.advance_eq, State.postIf_frame, hentered.settle_pos, hpos]

/-- R158: ARRIVING, on the final step. -/
theorem State.advance_arrives {tag : Seg × Seg} {next : Step} (hmatch : s.matched tag = some next)
    (hfinal : s.rte.isFinal next.num = true) : Posts s (s.advance next) (.arriving next.num next.seg) := by
  have hsettled : MovesOn s (s.entered next.seg).settle := ((State.departing_movesOn hmoving).setPos _).settle
  obtain ⟨before, -, hbefore⟩ := hsettled.told
  rw [s.advance_eq, State.departing_isFinal hmatch, hfinal]
  generalize (s.entered next.seg).settle = u at hbefore
  exact Posts.of_parts (after := []) hbefore rfl

end

/-- Settles O44: a bad, an ignored and a repeated tag by the equations of `State.tagRead` and `State.goodTag`, a match by what the head advance leaves, and
every other good tag by what a position fault does (`raise_all`). -/
theorem tagsMoveTheHead : Obligations.TagsMoveTheHead := by
  intro s bits stop hr ht
  simp only [exec_tagReceived s _ bits stop hr]
  refine ⟨by rw [s.tagRead_of_start], fun hbad => by rw [State.tagRead_of_bad ht hbad]; rfl,
    fun hgood h => by rw [State.tagRead_of_ignored ht hgood h], fun p hgood hplace hfault => ?_⟩
  rw [State.tagRead_of_good ht hgood hplace hfault]
  refine ⟨fun hrepeat => by rw [State.goodTag_of_repeat hrepeat], fun hfresh => ⟨fun next hmoving hmatch hcommitted => ?_,
    fun cause hcause => ?_⟩⟩
  · have hmoves := State.advance_movesOn hmoving next
    have htail : s.tail = p.tail := by rw [State.tail, hplace]; rfl
    rw [State.goodTag_of_match hfresh hmoving hmatch hcommitted]
    refine ⟨_, rfl, State.advance_pos hmoving hplace next, hmoves.state, hmoves.limit, ?_, State.advance_arrives hmoving hmatch,
      fun hnone => ?_, fun st rest hsome hroute => ?_⟩
    · rw [← s.advance_next]
      exact hmoves.mou
    · rw [s.advance_nums, State.departing_of_noTail (htail.trans hnone)]
    · have hdeparting : s.departing = s.releaseTail := State.departing_of_tail (htail ▸ hsome)
      refine ⟨?_, fun hheld hargs honline => ?_⟩
      · rw [s.advance_nums, hdeparting, s.releaseTail_nums, s.dropTailStep_rte_of_route hroute]
      · refine (s.dropTailStep_releases_of_route hargs honline hroute hheld).of_find ?_
        rw [s.advance_find_release, hdeparting, s.releaseTail_find_release]
  · rw [State.goodTag_of_fault hfresh cause hcause]
    obtain ⟨hmou, hrte, hdpt, htxq, hfaulted, hhead, hoffset, -⟩ :=
      raise_all s { cause := cause, first := (tagFrom bits).val, second := (tagTo bits).val }
    exact ⟨_, rfl, by rw [hmou], by rw [hmou], by rw [hmou], hrte, by rw [hmou], hdpt, htxq, by rw [hhead, hplace]; rfl,
      by rw [hoffset, hplace]; rfl, hfaulted⟩

end Sys2Proof.Machine
end

section
/-! The turnout controller's operations by their equations (R168 to R176): what each makes of the state, beside which other changes it may be made, and what it
reads of the state. -/
namespace Sys2Proof.Machine

open Sys2Proof

/-! ## What goes by the options alone -/

section
variable {s t : State}

theorem State.role_congr (h : t.opr = s.opr) : t.role = s.role := by rw [State.role, h, State.role]

theorem State.me_congr (h : t.opr = s.opr) : t.me = s.me := by rw [State.me, h, State.me]

theorem State.owned_congr (h : t.opr = s.opr) : t.owned = s.owned := by rw [State.owned, h, State.owned]

theorem State.option_congr (h : t.opr = s.opr) : t.option = s.option := by
  funext f
  rw [State.option, h, State.option]

end

/-! ## Requests and notices beside the controller -/

/-- R72: what the transmit queue makes of a request goes by the queue, the options and the station state alone. -/
theorem State.txRequest_txq_congr {s t : State} (hopr : t.opr = s.opr) (hstation : t.mbu.station = s.mbu.station)
    (htxq : t.txq = s.txq) (key : EntryKey) (args : Args) : (t.txRequest key args).txq = (s.txRequest key args).txq := by
  have haccepts : t.txAccepts key args = s.txAccepts key args := by
    simp only [State.txAccepts, State.online, State.owned, hopr, hstation, htxq]
  rw [State.txRequest_txq, State.txRequest_txq, haccepts, htxq]

/-- R73: a request is the same beside another state of the controller. -/
theorem State.txRequest_setToc (s : State) (c : Toc) (key : EntryKey) (args : Args) :
    (s.setToc c).txRequest key args = (s.txRequest key args).setToc c := by
  unfold State.txRequest
  split <;> rename_i h
  · rw [if_pos (by exact h)]; rfl
  · rw [if_neg (by exact h)]

/-- R73, R191: a request is the same beside another state of the drive port. -/
theorem State.txRequest_setDpt (s : State) (d : Dpt) (key : EntryKey) (args : Args) :
    (s.setDpt d).txRequest key args = (s.txRequest key args).setDpt d := by
  unfold State.txRequest
  split <;> rename_i h
  · rw [if_pos (by exact h)]; rfl
  · rw [if_neg (by exact h)]

theorem State.txRequest_post (s : State) (n : Notice) (key : EntryKey) (args : Args) :
    (s.post n).txRequest key args = (s.txRequest key args).post n := by
  rw [State.post, State.txRequest_setDpt, State.post]
  simp

/-! ## LIE requests (R175) -/

theorem State.requestLie_eq (s : State) (seg : Seg) (cause : LieCause) (answer : Option Answer) :
    s.requestLie seg cause answer = s.txRequest (.lie seg) (.lie (lieRequest cause answer).1 (lieRequest cause answer).2) := rfl

/-- R175: an answer part with a tag, and any of a REPORT, is sent with the cause. -/
theorem lieRequest_of_tag (cause : LieCause) (a : Answer) (h : a.tag.isSome = true ∨ cause = .report) :
    lieRequest cause (some a) = (cause, some a) := by
  simp [lieRequest, h]

/-- R175: the holder named in a REPORT. -/
theorem lieRequest_report (answer : Option Answer) : lieRequest .report answer = (.report, answer) := by
  cases answer with
  | none => rfl
  | some a => exact lieRequest_of_tag _ a (Or.inr rfl)

/-- R175: DONE to a claimant with no tag is a REPORT. -/
theorem lieRequest_done (answer : Option Answer) :
    lieRequest .done answer = (if answer.any fun a => a.tag.isNone then .report else .done, answer) := by
  cases answer with
  | none => rfl
  | some a => cases ha : a.tag <;> simp [lieRequest, ha]

/-! ## Records and the start queue (R163, R171) -/

/-- R163: the record of a segment is of that segment. -/
theorem Toc.record_seg {c : Toc} {seg : Seg} {r : Record} (h : c.record seg = some r) : r.seg = seg := by
  simpa using List.find?_some h

/-- R163: records changed one by one, each within its segment. -/
theorem Toc.record_map {c d : Toc} (f : Record → Record) (hd : d.records = c.records.map f) (hf : ∀ r, (f r).seg = r.seg)
    (seg : Seg) : d.record seg = (c.record seg).map f := by
  have hcomp : ((fun r : Record => r.seg == seg) ∘ f) = fun r => r.seg == seg := by
    funext r
    simp [hf]
  rw [Toc.record, hd, List.find?_map, hcomp, Toc.record]

/-- R171: a turnout leaves the start queue. -/
theorem State.leaveQueue_eq (s : State) (seg : Seg) :
    s.leaveQueue seg = s.setToc { s.toc with
      queue := s.toc.queue.filter (· != seg)
      records := s.toc.records.map fun q => if q.seg = seg then { q with target := none, answer := none } else q } := rfl

/-- R171: no start is made while the stagger timer runs. -/
theorem State.pump_of_running (s : State) (h : s.toc.stagger.isSome = true) : s.pump = s := if_pos h

theorem State.pump_of_stopped (s : State) (h : s.toc.stagger = none) : s.pump = s.startChecks s.toc.queue := by
  simp [State.pump, h]

/-! ## The motor start (R171, R172) -/

/-- R171: the record of a turnout whose motor has just started. -/
def State.startedRecord (s : State) (r : Record) (target : Points) : Record :=
  { r with lie := .moving, motor := motorFor target, throwTimer := some (1000 * s.option (·.throwTime)) }

/-- R171: the motor start before the detectors are tested. -/
def State.motorStarted (s : State) (r : Record) (target : Points) : State :=
  ((s.setToc { s.toc with
      records := s.toc.records.map fun q => if q.seg = r.seg then s.startedRecord r target else q
      stagger := some (100 * s.option (·.staggerCode)) }).post (.throwing r.seg .moving .moving)).txRequest (.lie r.seg)
    (.lie .moving (r.answer.filter fun a => a.tag.isSome))

/-- R163: the inputs of a segment go by the field inputs and the owned list. -/
theorem State.inputsOf_congr {s t : State} (hopr : t.opr = s.opr) (hinputs : t.toc.inputs = s.toc.inputs) (seg : Seg) :
    t.inputsOf seg = s.inputsOf seg := by
  simp only [State.inputsOf, State.position, State.owned, hopr, hinputs]

theorem State.lockHigh_congr {s t : State} (hopr : t.opr = s.opr) (hinputs : t.toc.inputs = s.toc.inputs) (seg : Seg)
    (p : Points) : t.lockHigh seg p = s.lockHigh seg p := by
  rw [State.lockHigh, State.inputsOf_congr hopr hinputs, State.lockHigh]

theorem State.occupied_congr {s t : State} (hopr : t.opr = s.opr) (hinputs : t.toc.inputs = s.toc.inputs) (seg : Seg) :
    t.occupied seg = s.occupied seg := by
  rw [State.occupied, State.inputsOf_congr hopr hinputs, State.occupied]

@[simp] theorem State.motorStarted_opr (s : State) (r : Record) (target : Points) : (s.motorStarted r target).opr = s.opr := by
  simp [State.motorStarted]

theorem State.motorStarted_toc (s : State) (r : Record) (target : Points) :
    (s.motorStarted r target).toc = { s.toc with
      records := s.toc.records.map fun q => if q.seg = r.seg then s.startedRecord r target else q
      stagger := some (100 * s.option (·.staggerCode)) } := by
  simp [State.motorStarted]

theorem State.motorStarted_dpt (s : State) (r : Record) (target : Points) :
    (s.motorStarted r target).dpt = s.dpt.post (.throwing r.seg .moving .moving) := by
  simp [State.motorStarted]

theorem State.motorStarted_txq (s : State) (r : Record) (target : Points) :
    (s.motorStarted r target).txq =
      (s.txRequest (.lie r.seg) (.lie .moving (r.answer.filter fun a => a.tag.isSome))).txq := by
  rw [State.motorStarted]
  exact State.txRequest_txq_congr (by simp) (by simp) (by simp) _ _

theorem State.motorStarted_lockHigh (s : State) (r : Record) (target : Points) (seg : Seg) (p : Points) :
    (s.motorStarted r target).lockHigh seg p = s.lockHigh seg p :=
  State.lockHigh_congr (by simp) (by simp [State.motorStarted_toc]) seg p

/-- R171: the notice and the LIE of a start, on the record with its motor on. -/
theorem State.reportLie_started (s : State) (r : Record) (target : Points) :
    ((s.modifyRecord r.seg fun _ => { r with
        motor := motorFor target, throwTimer := some (1000 * s.option (·.throwTime)) }).setToc
      { (s.modifyRecord r.seg fun _ => { r with
          motor := motorFor target, throwTimer := some (1000 * s.option (·.throwTime)) }).toc with
        stagger := some (100 * s.option (·.staggerCode)) }).reportLie r.seg .moving .moving r.answer =
      s.motorStarted r target := by
  have hrecords : ((fun q : Record => if q.seg = r.seg then { q with lie := .moving } else q) ∘ fun q =>
      if q.seg = r.seg then { r with motor := motorFor target, throwTimer := some (1000 * s.option (·.throwTime)) } else q) =
      fun q => if q.seg = r.seg then s.startedRecord r target else q := by
    funext q
    by_cases hq : q.seg = r.seg <;> simp [hq, State.startedRecord]
  rw [reportLie_eq, lieReq_tagless .moving r.answer (by decide), State.motorStarted]
  simp only [State.modifyRecord, Toc.modify, State.setToc_toc, State.setToc_setToc, List.map_map, hrecords]

/-- R171: the motor starts, and the throw ends in that event where the detectors show its end already (R172). -/
theorem State.startMotor_eq (s : State) (r : Record) (target : Points) :
    s.startMotor r target =
      match (s.motorStarted r target).throwEnd r with
      | some e => (s.motorStarted r target).stopThrow r e.1 e.2
      | none => s.motorStarted r target :=
  congrArg (fun u : State => match u.throwEnd r with
    | some e => u.stopThrow r e.1 e.2
    | none => u) (s.reportLie_started r target)

/-! ## A change of occupancy (R176) -/

/-- R176: a change of occupancy posted, and the GUARD requested. -/
def State.guarded (s : State) (r : Record) (level : Bool) : State :=
  if s.guards r.seg level then
    (s.post (.occupancy r.seg level true)).txRequest .guard (.segs (segOne r.seg))
  else s.post (.occupancy r.seg level false)

theorem State.occupancyEvent_eq (s : State) (r : Record) (level : Bool) :
    s.occupancyEvent r level = if level then (s.guarded r level).occupancyRise r else s.guarded r level := by
  unfold State.occupancyEvent State.guarded
  cases s.guards r.seg level <;> rfl

end Sys2Proof.Machine
end

section
/-! The point motors from one state to another (R163, R171): what the turnout controller's operations make of the records, of the stagger timer and of what the
law of the motors reads beside them. -/
namespace Sys2Proof.Machine

open Sys2Proof

/-! ## One record -/

/-- R171: what becomes of a record: its motor goes on as it was, it comes to rest, or, where that is allowed, its motor starts. -/
inductive Record.Becomes (allowed : Prop) (q r : Record) : Prop where
  | goesOn (hmotor : r.motor = q.motor) (hlie : r.lie = .moving ↔ q.lie = .moving)
  | rests (hmotor : r.motor = .off) (hlie : r.lie ≠ .moving)
  | starts (hallowed : allowed) (hmotor : r.motor ≠ .off) (hlie : r.lie = .moving)

theorem Record.Becomes.refl (allowed : Prop) (r : Record) : r.Becomes allowed r := .goesOn rfl Iff.rfl

theorem Record.Becomes.trans {before after allowed : Prop} {q r t : Record} (h : q.Becomes before r) (k : r.Becomes after t)
    (hbefore : before → allowed) (hafter : after → allowed) : q.Becomes allowed t := by
  cases k with
  | rests hmotor hlie => exact .rests hmotor hlie
  | starts hstart hmotor hlie => exact .starts (hafter hstart) hmotor hlie
  | goesOn hmotor hlie =>
    cases h with
    | goesOn hm hl => exact .goesOn (hmotor.trans hm) (hlie.trans hl)
    | rests hm hl => exact .rests (hmotor.trans hm) (mt hlie.mp hl)
    | starts hstart hm hl => exact .starts (hbefore hstart) (hmotor ▸ hm) (hlie.mpr hl)

/-- A record that rests stays so under another lie of the points. -/
theorem Record.Becomes.setLie (allowed : Prop) {r : Record} {lie : Lie} (hr : r.lie ≠ .moving) (hlie : lie ≠ .moving) :
    r.Becomes allowed { r with lie := lie } := .goesOn rfl (iff_of_false hlie hr)

theorem Record.Becomes.rest (allowed : Prop) (r : Record) {lie : Lie} (hlie : lie ≠ .moving) :
    r.Becomes allowed { r.rest with lie := lie } := .rests rfl hlie

/-! ## The records of a state -/

/-- R163: the segments of the records. -/
def Toc.segs (c : Toc) : List Seg := c.records.map (·.seg)

/-- R163: with one record for a segment, a record is known by its segment. -/
theorem Toc.eq_of_seg {c : Toc} (h : c.segs.Nodup) {q r : Record} (hq : q ∈ c.records) (hr : r ∈ c.records)
    (hseg : q.seg = r.seg) : q = r := List.inj_on_of_nodup_map h hq hr hseg

/-- R82: the station is past START and has no configuration fault. -/
def State.inService (s : State) : Prop := s.mbu.station ≠ .start ∧ s.mbu.station ≠ .configFault

/-- R171: from `s` to `u` every motor goes on or comes to rest, and one at most starts, of a turnout with low occupancy: only with the stagger timer not running,
which it leaves running for the full stagger time. A running stagger timer is left as it is. -/
structure MotorMoves (s u : State) : Prop where
  opr : u.opr = s.opr
  station : u.mbu.station = s.mbu.station ∨ u.inService
  occupied : ∀ seg, u.occupied seg = s.occupied seg
  segs : u.toc.segs = s.toc.segs
  stagger : u.toc.stagger = s.toc.stagger ∨ s.toc.stagger = none
  records : s.toc.segs.Nodup → ∃ started : Option Seg,
    (started ≠ none → s.toc.stagger = none ∧ u.toc.stagger = some (100 * s.option (·.staggerCode))) ∧
      ∀ r ∈ u.toc.records, ∃ q ∈ s.toc.records,
        q.seg = r.seg ∧ q.Becomes (started = some r.seg ∧ s.occupied r.seg = false) r

namespace MotorMoves

theorem refl (s : State) : MotorMoves s s :=
  ⟨rfl, Or.inl rfl, fun _ => rfl, rfl, Or.inl rfl, fun _ =>
    ⟨none, fun h => absurd rfl h, fun r hr => ⟨r, hr, rfl, .refl _ r⟩⟩⟩

variable {s u t : State}

/-! ### No motor starts -/

/-- Records changed one by one, no motor started. -/
theorem mapRecords (h : MotorMoves s u) (f : Record → Record) (hseg : ∀ r, (f r).seg = r.seg)
    (hf : u.toc.segs.Nodup → ∀ r ∈ u.toc.records, r.Becomes False (f r)) (hrecords : t.toc.records = u.toc.records.map f)
    (hinputs : t.toc.inputs = u.toc.inputs) (hstagger : t.toc.stagger = u.toc.stagger) (hopr : t.opr = u.opr)
    (hstation : t.mbu.station = u.mbu.station ∨ t.inService) : MotorMoves s t := by
  refine ⟨hopr.trans h.opr, ?_, fun seg => ?_, ?_, ?_, fun hnodup => ?_⟩
  · rcases hstation with hsame | hservice
    · exact h.station.imp hsame.trans fun hu => by rwa [State.inService, hsame]
    · exact Or.inr hservice
  · rw [State.occupied_congr hopr hinputs, h.occupied]
  · rw [← h.segs]
    simp only [Toc.segs, hrecords, List.map_map]
    exact List.map_congr_left fun r _ => hseg r
  · rw [hstagger]
    exact h.stagger
  · obtain ⟨started, hstarted, hrecs⟩ := h.records hnodup
    refine ⟨started, fun hne => hstagger ▸ hstarted hne, fun r hr => ?_⟩
    rw [hrecords] at hr
    obtain ⟨v, hv, rfl⟩ := List.mem_map.mp hr
    obtain ⟨q, hq, hqv, hbecomes⟩ := hrecs v hv
    rw [hseg v]
    exact ⟨q, hq, hqv, hbecomes.trans (hf (h.segs ▸ hnodup) v hv) id False.elim⟩

/-- What the law does not read changed, and the station state within service. -/
theorem keeps (h : MotorMoves s u) (htoc : t.toc = u.toc) (hopr : t.opr = u.opr)
    (hstation : t.mbu.station = u.mbu.station ∨ t.inService) : MotorMoves s t :=
  h.mapRecords id (fun _ => rfl) (fun _ r _ => .refl _ r) (by rw [htoc, List.map_id]) (by rw [htoc]) (by rw [htoc]) hopr
    hstation

/-- What the law does not read changed. -/
theorem same (h : MotorMoves s u) (hsame : t.toc = u.toc ∧ t.opr = u.opr ∧ t.mbu.station = u.mbu.station) : MotorMoves s t :=
  h.keeps hsame.1 hsame.2.1 (Or.inl hsame.2.2)

/-- The controller changed beside records, inputs and stagger timer. -/
theorem setToc (h : MotorMoves s u) (c : Toc)
    (hc : c.records = u.toc.records ∧ c.inputs = u.toc.inputs ∧ c.stagger = u.toc.stagger) : MotorMoves s (u.setToc c) :=
  h.mapRecords id (fun _ => rfl) (fun _ r _ => .refl _ r) (hc.1.trans (List.map_id _).symm) hc.2.1 hc.2.2 rfl (Or.inl rfl)

/-- A record changed beside its motor and its lie. -/
theorem modifyRecord (h : MotorMoves s u) (seg : Seg) (f : Record → Record)
    (hf : ∀ r, (f r).seg = r.seg ∧ (f r).motor = r.motor ∧ (f r).lie = r.lie) : MotorMoves s (u.modifyRecord seg f) := by
  refine h.mapRecords _ (fun r => ?_) (fun _ r _ => ?_) rfl rfl rfl rfl (Or.inl rfl)
  · split
    · exact (hf r).1
    · rfl
  · split
    · obtain ⟨-, hmotor, hlie⟩ := hf r
      exact .goesOn hmotor (by rw [hlie])
    · exact .refl _ r

/-- R166, R167: a turnout at rest takes another lie. -/
theorem reportLie (h : MotorMoves s u) {r : Record} (hr : r ∈ u.toc.records) (hrest : r.lie ≠ .moving) {lie : Lie}
    (hlie : lie ≠ .moving) (cause : LieCause) (answer : Option Answer) :
    MotorMoves s (u.reportLie r.seg lie cause answer) := by
  rw [reportLie_eq]
  refine same (u := u.modifyRecord r.seg fun q => { q with lie := lie }) ?_ (by simp)
  refine h.mapRecords _ (fun q => ?_) (fun hnodup q hq => ?_) rfl rfl rfl rfl (Or.inl rfl)
  · split <;> rfl
  · split
    · next hseg =>
      cases Toc.eq_of_seg hnodup hq hr hseg
      exact .setLie _ hrest hlie
    · exact .refl _ q

/-- R172: a throw ends. -/
theorem stopThrow (h : MotorMoves s u) (r : Record) {lie : Lie} (hlie : lie ≠ .moving) (cause : LieCause) :
    MotorMoves s (u.stopThrow r lie cause) := by
  rw [stopThrow_eq]
  refine same (u := u.modifyRecord r.seg fun q => { q with
    motor := .off, throwTimer := none, target := none, answer := none, lie := lie }) ?_ (by simp)
  refine h.mapRecords _ (fun q => ?_) (fun _ q _ => ?_) rfl rfl rfl rfl (Or.inl rfl)
  · split <;> rfl
  · split
    · exact .rest _ q hlie
    · exact .refl _ q

/-- R177: the controller emptied, with running throws run on. -/
theorem emptied (h : MotorMoves s u) (htoc : t.toc = u.toc.emptied) (hopr : t.opr = u.opr)
    (hstation : t.mbu.station = u.mbu.station ∨ t.inService) : MotorMoves s t := by
  refine h.mapRecords Record.emptied (fun r => ?_) (fun _ r _ => ?_) (by rw [htoc]; rfl) (by rw [htoc]; rfl)
    (by rw [htoc]; rfl) hopr hstation
  · unfold Record.emptied
    split <;> rfl
  · unfold Record.emptied
    split <;> exact .goesOn rfl Iff.rfl

theorem foldl {β : Type} (f : State → β → State) (hf : ∀ (u : State) (b : β), MotorMoves s u → MotorMoves s (f u b))
    (l : List β) (h : MotorMoves s u) : MotorMoves s (l.foldl f u) := by
  induction l generalizing u with
  | nil => exact h
  | cons b rest ih => exact ih (hf u b h)

/-! ### The motor start -/

/-- R171: a motor starts where the stagger timer is not running, and so as the only one. -/
theorem motorStarted (h : MotorMoves s u) (r : Record) (target : Points) (hstagger : u.toc.stagger = none)
    (hoccupied : u.occupied r.seg = false) : MotorMoves s (u.motorStarted r target) := by
  have htoc := u.motorStarted_toc r target
  have hnone : s.toc.stagger = none := h.stagger.elim (fun hsame => hsame.symm.trans hstagger) id
  have hoption : u.option = s.option := State.option_congr h.opr
  have hseg : ∀ q : Record, (if q.seg = r.seg then u.startedRecord r target else q).seg = q.seg := by
    intro q
    split
    · next hq => exact hq.symm
    · rfl
  refine ⟨(u.motorStarted_opr r target).trans h.opr, ?_, fun seg => ?_, ?_, Or.inr hnone, fun hnodup => ?_⟩
  · exact h.station.imp (fun hs => by simpa [State.motorStarted] using hs) fun hs => by
      simpa [State.motorStarted, State.inService] using hs
  · rw [State.occupied_congr (u.motorStarted_opr r target) (by rw [htoc]), h.occupied]
  · rw [← h.segs]
    simp only [Toc.segs, htoc, List.map_map]
    exact List.map_congr_left fun q _ => hseg q
  · obtain ⟨started, hstarted, hrecs⟩ := h.records hnodup
    have hfirst : started = none := by
      by_contra hne
      exact nomatch hstagger.symm.trans (hstarted hne).2
    subst hfirst
    refine ⟨some r.seg, fun _ => ⟨hnone, by rw [htoc, hoption]⟩, fun v hv => ?_⟩
    rw [htoc] at hv
    obtain ⟨q, hq, rfl⟩ := List.mem_map.mp hv
    obtain ⟨o, ho, hoq, hbecomes⟩ := hrecs q hq
    refine ⟨o, ho, hoq.trans (hseg q).symm, hbecomes.trans (after := q.seg = r.seg) ?_ (nomatch ·.1) fun hq => ?_⟩
    · split
      · next hq =>
        refine .starts hq ?_ rfl
        cases target <;> exact nofun
      · exact .refl _ q
    · rw [hseg q, hq]
      exact ⟨rfl, (h.occupied _).symm.trans hoccupied⟩

theorem throwEnd_ne_moving {v : State} {r : Record} {e : Lie × LieCause} (he : v.throwEnd r = some e) : e.1 ≠ .moving := by
  unfold State.throwEnd at he
  split at he
  · cases he
  · next p _ =>
    split at he
    · cases he
      cases p <;> exact nofun
    · split at he
      · cases he
        exact nofun
      · cases he

theorem startMotor (h : MotorMoves s u) (r : Record) (target : Points) (hstagger : u.toc.stagger = none)
    (hoccupied : u.occupied r.seg = false) : MotorMoves s (u.startMotor r target) := by
  have hstarted := h.motorStarted r target hstagger hoccupied
  rw [State.startMotor_eq]
  split
  · next e he => exact hstarted.stopThrow r (throwEnd_ne_moving he) _
  · exact hstarted

theorem leaveQueue (h : MotorMoves s u) (seg : Seg) : MotorMoves s (u.leaveQueue seg) :=
  (h.modifyRecord seg (Record.aim none none) fun _ => ⟨rfl, rfl, rfl⟩).setToc _ (by exact ⟨rfl, rfl, rfl⟩)

theorem requestLie (h : MotorMoves s u) (seg : Seg) (cause : LieCause) (answer : Option Answer) :
    MotorMoves s (u.requestLie seg cause answer) := h.same (by simp)

theorem startChecks (h : MotorMoves s u) (segs : List Seg) (hstagger : u.toc.stagger = none) :
    MotorMoves s (u.startChecks segs) := by
  induction segs generalizing u with
  | nil => exact h
  | cons seg rest ih =>
    unfold State.startChecks
    split
    · next r hr =>
      split
      · next target _ =>
        split
        · exact ih ((h.leaveQueue seg).requestLie _ _ _) (by simpa [State.leaveQueue_eq] using hstagger)
        · next hocc =>
          split
          · refine (h.setToc _ (by exact ⟨rfl, rfl, rfl⟩)).startMotor r target hstagger ?_
            rw [Toc.record_seg hr]
            exact Bool.eq_false_iff.mpr hocc
          · exact ih (h.leaveQueue seg) hstagger
      · exact ih (h.leaveQueue seg) hstagger
    · exact ih (h.leaveQueue seg) hstagger

theorem pump (h : MotorMoves s u) : MotorMoves s u.pump := by
  cases hstagger : u.toc.stagger with
  | some n => rwa [State.pump_of_running u (by simp [hstagger])]
  | none =>
    rw [State.pump_of_stopped u hstagger]
    exact h.startChecks _ hstagger

/-! ### Throws, detectors and occupancy (R166 to R173) -/

theorem joinQueue (h : MotorMoves s u) (seg : Seg) (target : Points) (answer : Option Answer) :
    MotorMoves s (u.joinQueue seg target answer) :=
  ((h.modifyRecord seg (Record.aim (some target) answer) fun _ => ⟨rfl, rfl, rfl⟩).setToc _ (by exact ⟨rfl, rfl, rfl⟩)).pump

theorem wonMoving (h : MotorMoves s u) (seg : Seg) (target : Points) (answer : Answer) :
    MotorMoves s (u.modifyRecord seg (Record.wonMoving target answer)) := by
  have hwon : ∀ r : Record, (r.wonMoving target answer).seg = r.seg ∧ (r.wonMoving target answer).motor = r.motor ∧
      (r.wonMoving target answer).lie = r.lie := by
    intro r
    unfold Record.wonMoving
    split <;> exact ⟨rfl, rfl, rfl⟩
  exact h.modifyRecord seg _ hwon

theorem wonTurnout (h : MotorMoves s u) (seg : Seg) (required : Option Points) (answer : Answer) :
    MotorMoves s (u.wonTurnout seg required answer) := by
  unfold State.wonTurnout
  split
  · exact h.requestLie _ _ _
  · split
    · exact h.requestLie _ _ _
    · split
      · exact h.wonMoving _ _ _
      · split
        · exact h.requestLie _ _ _
        · exact h.joinQueue _ _ _

/-- R169: the follow-on of a throw that has ended. -/
theorem followOn (h : MotorMoves s (u.stopThrow r lie cause)) : MotorMoves s (u.endThrow r lie cause) := by
  unfold State.endThrow
  dsimp only
  split
  · exact h
  · split
    · exact (h.modifyRecord _ _ (by exact fun _ => ⟨rfl, rfl, rfl⟩)).wonTurnout _ _ _
    · exact h.modifyRecord _ _ (by exact fun _ => ⟨rfl, rfl, rfl⟩)

theorem endThrow (h : MotorMoves s u) (r : Record) {lie : Lie} (hlie : lie ≠ .moving) (cause : LieCause) :
    MotorMoves s (u.endThrow r lie cause) := (h.stopThrow r hlie cause).followOn

theorem testLocked (h : MotorMoves s u) {r : Record} (hr : r ∈ u.toc.records) (hrest : r.lie ≠ .moving) (p : Points) :
    MotorMoves s (u.testLocked r p) := by
  unfold State.testLocked
  split
  · exact h.reportLie hr hrest (by decide) _ _
  · split
    · exact h.reportLie hr hrest (by decide) _ _
    · exact h

theorem testLost (h : MotorMoves s u) {r : Record} (hr : r ∈ u.toc.records) (hrest : r.lie ≠ .moving) :
    MotorMoves s (u.testLost r) := by
  unfold State.testLost
  split
  · exact h.reportLie hr hrest (by decide) _ _
  · exact h.reportLie hr hrest (by decide) _ _
  · exact h

theorem testDetectors (h : MotorMoves s u) {r : Record} (hr : r ∈ u.toc.records) : MotorMoves s (u.testDetectors r) := by
  unfold State.testDetectors
  split
  · next hlie => exact h.testLocked hr (by simp [hlie]) _
  · next hlie => exact h.testLocked hr (by simp [hlie]) _
  · next hlie => exact h.testLost hr (by simp [hlie])
  · next hlie => exact h.testLost hr (by simp [hlie])
  · split
    · next e he => exact h.endThrow r (throwEnd_ne_moving he) _
    · exact h

theorem occupancyRise (h : MotorMoves s u) (r : Record) : MotorMoves s (u.occupancyRise r) := by
  unfold State.occupancyRise
  split
  · exact h.endThrow r (by decide) _
  · split
    · exact (h.leaveQueue _).requestLie _ _ _
    · exact h

/-- R176: the notice of a change of occupancy, and the GUARD. -/
theorem guarded (h : MotorMoves s u) (r : Record) (level : Bool) :
    MotorMoves s (u.guarded r level) := by
  unfold State.guarded
  split <;> exact h.same (by simp)

end MotorMoves

end Sys2Proof.Machine
end

section
/-! The point motors at a change report, at the changes of station state, at the line's verdicts and at the wayside commands (R128 to R130, R168, R170, R174, R177
to R179). -/
namespace Sys2Proof.Machine

open Sys2Proof

namespace MotorMoves

variable {s u : State}

/-! ### The transmit queue -/

theorem setTxq (h : MotorMoves s u) (q : Txq) : MotorMoves s (u.setTxq q) := h.same (by simp)

theorem requestRelease (h : MotorMoves s u) (segs : List Seg) : MotorMoves s (u.requestRelease segs) := h.same (by simp)

/-! ### Change reports (R129, R168, R174) -/

theorem possessionOutcome (h : MotorMoves s u) (r : Report) (withdrawn : Bool) :
    MotorMoves s (u.possessionOutcome r withdrawn) := by
  have hended : MotorMoves s (u.setToc { u.toc with claiming := false }) := h.setToc _ (by exact ⟨rfl, rfl, rfl⟩)
  unfold State.possessionOutcome
  dsimp only
  split
  · split <;> exact hended.same (by simp)
  · split
    · exact hended
    · exact hended.same (by simp)
  · exact hended

theorem possessionTold (h : MotorMoves s u) (r : Report) (told : Option ClaimTold) : MotorMoves s (u.possessionTold r told) := by
  unfold State.possessionTold
  split
  · exact h.possessionOutcome r _
  · exact h.setToc _ (by exact ⟨rfl, rfl, rfl⟩)
  · exact h

theorem turnoutReport (h : MotorMoves s u) (r : Report) (told : Option ClaimTold) : MotorMoves s (u.turnoutReport r told) := by
  have hwins : MotorMoves s ((u.possessionTold r told).answerWins r) :=
    (h.possessionTold r told).foldl _ (fun _ _ hv => hv.wonTurnout _ _ _) _
  have hdropped : MotorMoves s (((u.possessionTold r told).answerWins r).dropQueued r) :=
    hwins.foldl _ (fun _ _ hv => hv.leaveQueue _) _
  unfold State.turnoutReport
  dsimp only
  split
  · exact foldl _ (fun _ _ hv => hv.same (by simp)) _ (hdropped.same (by simp))
  · exact hdropped.same (by simp)

theorem turnoutTold (h : MotorMoves s u) (told : Option ClaimTold) : MotorMoves s (u.turnoutTold told) := by
  unfold State.turnoutTold
  split
  · exact h.setToc _ (by exact ⟨rfl, rfl, rfl⟩)
  · exact h

theorem returnThrow (h : MotorMoves s u) (seg : Seg) (answer : Answer) (target : Points) :
    MotorMoves s (u.returnThrow seg answer target) := by
  unfold State.returnThrow
  split
  · exact h.wonMoving _ _ _
  · split
    · exact h
    · exact h.joinQueue _ _ _

theorem returnTurnout (h : MotorMoves s u) (seg : Seg) : MotorMoves s (u.returnTurnout seg) := by
  unfold State.returnTurnout
  split
  · dsimp only
    split
    · exact (h.requestLie _ _ _).returnThrow _ _ _
    · exact h.requestLie _ _ _
  · exact h
  · exact h

theorem turnoutReturn (h : MotorMoves s u) : MotorMoves s u.turnoutReturn :=
  h.foldl _ (fun _ _ hv => hv.returnTurnout _) _

/-! ### Changes of the station state (R92, R93, R96, R97) -/

/-- R82: the station enters a state past START. -/
theorem enter (h : MotorMoves s u) (state : StationState) (cause : ChangeCause)
    (hstate : state ≠ .start ∧ state ≠ .configFault) : MotorMoves s (u.enter state cause) :=
  h.keeps rfl rfl (Or.inr hstate)

theorem relisten (h : MotorMoves s u) (cause : ChangeCause) : MotorMoves s (u.relisten cause) := by
  by_cases honline : u.online = true
  · have hlisten : MotorMoves s (u.relistened cause) := h.keeps rfl rfl (Or.inr ⟨nofun, nofun⟩)
    rw [u.relisten_eq cause honline]
    unfold State.tellRelisten
    split
    · exact hlisten.same (by simp)
    · exact hlisten.emptied (State.turnoutRelisten_toc _ _) (by simp) (Or.inl (by simp))
    · exact hlisten
  · rwa [State.relisten, if_neg honline]

theorem relistenIf (h : MotorMoves s u) (b : Bool) (cause : ChangeCause) : MotorMoves s (u.relistenIf b cause) := by
  unfold State.relistenIf
  split
  · exact h.relisten cause
  · exact h

theorem duplicateHalt (h : MotorMoves s u) : MotorMoves s u.duplicateHalt := by
  have hhalted : MotorMoves s u.haltedDuplicate := h.keeps rfl rfl (Or.inr ⟨nofun, nofun⟩)
  rw [State.duplicateHalt_eq]
  unfold State.tellHalt
  split
  · exact hhalted.same (by simp)
  · exact hhalted.emptied rfl rfl (Or.inl rfl)
  · exact hhalted

theorem announce (h : MotorMoves s u) : MotorMoves s u.announce :=
  h.keeps (by simp) (by simp) (Or.inr (by rw [State.inService, announce_mbu]; exact ⟨nofun, nofun⟩))

theorem activate (h : MotorMoves s u) : MotorMoves s u.activate := by
  have hactive : MotorMoves s ((u.enter .active .announceTaken).startOwnLease) :=
    (h.enter .active .announceTaken ⟨nofun, nofun⟩).same (by exact ⟨rfl, rfl, rfl⟩)
  unfold State.activate State.tellActive
  split
  · exact hactive.same (by simp)
  · exact hactive.turnoutReturn
  · exact hactive

theorem completionTest (h : MotorMoves s u) : MotorMoves s u.completionTest := by
  unfold State.completionTest
  split
  · exact h.announce
  · exact h

theorem sightingLost (h : MotorMoves s u) : MotorMoves s u.sightingLost :=
  h.keeps (by simp) (by simp) (Or.inl u.sightingLost_station)

/-! ### The line's verdicts (R47, R49, R52, R54, R56) -/

theorem sendOver (h : MotorMoves s u) (o : SendOutcome) : MotorMoves s (u.sendOver o) := by
  have hsent : MotorMoves s (u.setTxq (u.txq.outcome o).1) := h.same (by simp)
  unfold State.sendOver State.tellRequester
  split
  · exact hsent.same (by simp)
  · exact hsent.turnoutTold _
  · exact hsent

theorem countVeto (h : MotorMoves s u) : MotorMoves s u.countVeto := (h.same (by simp) : MotorMoves s (u.setLiu _)).relistenIf _ _

theorem countRejection (h : MotorMoves s u) : MotorMoves s u.countRejection :=
  (h.same (by simp) : MotorMoves s (u.setLiu _)).relistenIf _ _

theorem clashSend (h : MotorMoves s u) (arbitrated : Bool) : MotorMoves s (u.clashSend arbitrated) := by
  unfold State.clashSend
  dsimp only
  split
  · exact (sendOver (h.same (by simp)) _).countRejection
  · exact h.same (by simp)

theorem stuffError (h : MotorMoves s u) (recessive : Bool) : MotorMoves s (u.stuffError recessive) := by
  unfold State.stuffError
  split
  · exact h.same (by simp)
  · exact sightingLost (h.same (by simp))

theorem endBreak (h : MotorMoves s u) : MotorMoves s u.endBreak := by
  have hover : MotorMoves s (u.seekIdle 0).sightingLost := sightingLost (h.same (by simp))
  unfold State.endBreak
  dsimp only
  split
  · exact hover.countVeto
  · exact hover

theorem classifyOther (h : MotorMoves s u) (line : LineFrame) (f : Frame) : MotorMoves s (u.classifyOther line f) := by
  refine h.keeps (by simp) (by simp) (Or.inl ?_)
  unfold State.classifyOther
  dsimp only
  split
  · split <;> rfl
  · rfl
  · rfl

theorem readVeto (h : MotorMoves s u) (line : LineFrame) (dominant : Bool) : MotorMoves s (u.readVeto line dominant) := by
  unfold State.readVeto
  dsimp only
  split
  · split
    · exact countVeto (h.same (by simp))
    · exact relisten (h.same (by simp)) _
  · exact h.same (by simp)

theorem rejectFrame (h : MotorMoves s u) (line : LineFrame) : MotorMoves s (u.rejectFrame line) := by
  have hover : MotorMoves s (u.seekIdle 0).sightingLost := sightingLost (h.same (by simp))
  unfold State.rejectFrame
  dsimp only
  split
  · split
    · exact (hover.sendOver _).countRejection
    · exact hover.sendOver _
  · exact hover

/-- R91, R99: the peer table keeps the station state. -/
theorem peersTaken (h : MotorMoves s u) (tally : StationSet) (sender : Station) (heard : Option Payload) :
    MotorMoves s (u.peersTaken tally sender heard) :=
  h.keeps (by simp) (by simp) (Or.inl (congrArg (·.2.1) (peersTaken_core u tally sender heard)))

theorem tableTaken (h : MotorMoves s u) (own : Bool) (r : Received) : MotorMoves s (u.tableTaken own r) := by
  have hsent : MotorMoves s (u.sendTaken own).1 := h.same (by simp)
  unfold State.tableTaken State.applyFrame
  split
  · exact hsent
  · unfold State.handReport
    split
    · exact hsent.same (by simp)
    · exact turnoutReport (hsent.same (by simp)) _ _
    · exact hsent.same (by simp)

theorem endTaken (h : MotorMoves s u) (own : Bool) (content : Option Payload) : MotorMoves s (u.endTaken own content) := by
  have hlease : MotorMoves s (if u.isActive then u.startOwnLease else u) := by
    split
    · exact h.same ⟨rfl, rfl, rfl⟩
    · exact h
  unfold State.endTaken
  dsimp only
  generalize (if u.isActive = true then u.startOwnLease else u) = v at hlease ⊢
  split
  · exact hlease.activate
  · exact hlease

theorem takenRow (h : MotorMoves s u) (k : Kind) (slots : StationSet) : MotorMoves s (u.takenRow k slots) := by
  have hseek : MotorMoves s (u.seekIdle 0) := h.same (by simp)
  unfold State.takenRow
  split
  · exact h
  · split
    · exact h
    · next r _ =>
      split
      · unfold State.taken
        split
        · exact h.duplicateHalt
        · dsimp only
          split
          · rw [State.takenOnline_eq]
            exact endTaken (((hseek.tableTaken _ r).peersTaken _ _ _).setTxq _) _ _
          · exact completionTest (peersTaken (hseek.keeps (by simp) (by simp) (Or.inl (State.hear_station _ r))) _ _ _)
      · exact h

/-! ### The drive port (R128, R130, R170, R181, R182) -/

theorem transact (h : MotorMoves s u) (tests : PortTests) (act : State → State × Reply) (ha : MotorMoves s (act u).1) :
    MotorMoves s (State.transact tests act u) := by
  unfold State.transact
  split
  · exact h.same (by simp)
  · split
    · exact h.same (by simp)
    · exact ha.same (by simp)

theorem judge (h : MotorMoves s u) (refusal : Option Reason) (effect : State → State) (he : MotorMoves s (effect u)) :
    MotorMoves s (u.judge refusal effect).1 := by
  unfold State.judge
  split
  · exact h
  · exact he

theorem possess (h : MotorMoves s u) (segs : List Seg) : MotorMoves s (u.possess segs) :=
  (h.same (by simp) : MotorMoves s (u.txRequest _ _)).setToc _ (by simp)

theorem unpossess (h : MotorMoves s u) : MotorMoves s u.unpossess := by
  have hwithdrawn : MotorMoves s u.withdrawPossession := by
    unfold State.withdrawPossession
    split
    · exact (h.same (by simp) : MotorMoves s (u.setTxq _)).setToc _ (by exact ⟨rfl, rfl, rfl⟩)
    · exact h
  exact hwithdrawn.requestRelease _

theorem throwAct (h : MotorMoves s u) (seg : Seg) (lie : Option Points) : MotorMoves s (u.throwAct seg lie).1 := by
  unfold State.throwAct
  split
  · refine h.judge _ _ ?_
    unfold State.throwTo
    split
    · exact h
    · split
      · exact h.modifyRecord _ _ (by exact fun _ => ⟨rfl, rfl, rfl⟩)
      · exact h.joinQueue _ _ _
  · exact h

end MotorMoves

end Sys2Proof.Machine
end

section
/-! The law of the point motors along every step (R163, R171): what a step that moves the motors as `MotorMoves` says keeps of it, the end of START, a change of
occupancy, and every command. -/
namespace Sys2Proof.Machine

open Sys2Proof

/-! ## What the law asks of a step -/

/-- R163, R171: what the law of the point motors says of one step, by the command it takes, none for a millisecond. -/
structure MotorStep (command : Option Instr) (s t : State) : Prop where
  laws : MotorLaw s → RecordLaw s → MotorLaw t ∧ RecordLaw t
  starts : RecordLaw s → ∀ r, Started s t r →
    (s.toc.stagger = none ∨ command = some .staggerExpiry) ∧ t.toc.stagger = some (100 * s.option (·.staggerCode)) ∧
      ∀ q, Started s t q → q.seg = r.seg
  stagger : ∀ n, s.mbu.station ≠ .start → s.toc.stagger = some n →
    t.toc.stagger = some n ∨ (command = none ∧ t.toc.stagger = some (n - 1)) ∨ command = some .staggerExpiry ∨
      command = some .reset ∨ command = some .resetRelease

/-- R163: one record for each turnout. -/
theorem RecordLaw.nodup {s : State} (h : RecordLaw s) : s.toc.segs.Nodup := by
  obtain ⟨hrecords, hnodup, -⟩ := h
  rcases hrecords with howned | hnone
  · rwa [Toc.segs, howned]
  · rw [Toc.segs, hnone]
    exact List.nodup_nil

/-- R163: in START there are no records. -/
theorem RecordLaw.noRecords {s : State} (h : RecordLaw s) (hstart : s.mbu.station = .start) : s.toc.records = [] :=
  h.2.2 (Or.inl hstart)

namespace MotorMoves

variable {s t : State}

theorem motorLaw (h : MotorMoves s t) (hmotors : MotorLaw s) (hnodup : s.toc.segs.Nodup) : MotorLaw t := by
  obtain ⟨started, -, hrecs⟩ := h.records hnodup
  intro r hr
  obtain ⟨q, hq, hseg, hbecomes⟩ := hrecs r hr
  obtain ⟨hlow, hmoving⟩ := hmotors q hq
  rw [h.occupied]
  cases hbecomes with
  | goesOn hmotor hlie =>
    rw [hmotor, ← hseg]
    exact ⟨hlow, hmoving.trans hlie.symm⟩
  | rests hmotor hlie => exact ⟨fun hne => absurd hmotor hne, iff_of_false (not_not_intro hmotor) hlie⟩
  | starts hallowed hmotor hlie => exact ⟨fun _ => hallowed.2, iff_of_true hmotor hlie⟩

theorem recordLaw (h : MotorMoves s t) (hlaw : RecordLaw s) : RecordLaw t := by
  obtain ⟨hrole, -, -, -, -, -, -, -, howned⟩ := State.of_opr h.opr
  have hsegs := h.segs
  have hempty : s.toc.records = [] → t.toc.records = [] := fun hnone => by
    simpa [Toc.segs, hnone] using hsegs
  obtain ⟨hrecords, hnodup, hservice⟩ := hlaw
  refine ⟨hrecords.imp (fun hmap => ?_) hempty, howned ▸ hnodup, fun hno => hempty (hservice ?_)⟩
  · rw [howned, ← hmap]
    exact hsegs
  · rw [hrole] at hno
    rcases h.station with hsame | ⟨hnotStart, hnotFault⟩
    · rwa [hsame] at hno
    · exact Or.inr (Or.inr (hno.elim (absurd · hnotStart) (·.elim (absurd · hnotFault) id)))

/-- R171: what starts is the one turnout that `records` names. -/
theorem startsOne (h : MotorMoves s t) (hnodup : s.toc.segs.Nodup) (r : Record) (hr : Started s t r) :
    s.toc.stagger = none ∧ t.toc.stagger = some (100 * s.option (·.staggerCode)) ∧ ∀ q, Started s t q → q.seg = r.seg := by
  obtain ⟨started, hstarted, hrecs⟩ := h.records hnodup
  have hone : ∀ q, Started s t q → started = some q.seg := by
    rintro q ⟨hq, hrun, hnew⟩
    obtain ⟨o, ho, hseg, hbecomes⟩ := hrecs q hq
    cases hbecomes with
    | goesOn hmotor hlie => exact absurd hmotor.symm (hnew o ho hseg)
    | rests hmotor hlie => exact absurd hmotor hrun
    | starts hallowed hmotor hlie => exact hallowed.1
  obtain ⟨hnone, hsome⟩ := hstarted (by simp [hone r hr])
  exact ⟨hnone, hsome, fun q hq => Option.some.inj ((hone q hq).symm.trans (hone r hr))⟩

theorem motorStep (h : MotorMoves s t) (command : Option Instr) : MotorStep command s t := by
  refine ⟨fun hmotors hlaw => ⟨h.motorLaw hmotors hlaw.nodup, h.recordLaw hlaw⟩, fun hlaw r hr => ?_, fun n _ hn => ?_⟩
  · obtain ⟨hnone, hsome⟩ := h.startsOne hlaw.nodup r hr
    exact ⟨Or.inl hnone, hsome⟩
  · rcases h.stagger with hsame | hnone
    · exact Or.inl (hsame.trans hn)
    · exact nomatch hnone.symm.trans hn

end MotorMoves

/-! ## START (R163, R165, R194) -/

/-- R163: with no records there is nothing to say of the motors. -/
theorem motorLaw_of_noRecords {s : State} (h : s.toc.records = []) : MotorLaw s := by
  intro r hr
  rw [h] at hr
  cases hr

theorem recordLaw_of_noRecords {s : State} (h : s.toc.records = []) (hnodup : s.owned.Nodup) : RecordLaw s :=
  ⟨Or.inr h, hnodup, fun _ => h⟩

/-- A step out of START or within it that leaves every motor off. -/
theorem motorStep_of_start {s t : State} (command : Option Instr) (hstart : s.mbu.station = .start)
    (ht : RecordLaw s → MotorLaw t ∧ RecordLaw t ∧ ∀ r ∈ t.toc.records, r.motor = .off) : MotorStep command s t :=
  ⟨fun _ hlaw => ⟨(ht hlaw).1, (ht hlaw).2.1⟩, fun hlaw r hr => absurd ((ht hlaw).2.2 r hr.1) hr.2.1,
    fun _ hne _ => absurd hstart hne⟩

/-- In START, with no records made. -/
theorem motorStep_of_noRecords {s t : State} (command : Option Instr) (hstart : s.mbu.station = .start)
    (hrecords : t.toc.records = s.toc.records) (hnodup : s.owned.Nodup → t.owned.Nodup) : MotorStep command s t := by
  refine motorStep_of_start command hstart fun hlaw => ?_
  have hnone : t.toc.records = [] := hrecords.trans (hlaw.noRecords hstart)
  exact ⟨motorLaw_of_noRecords hnone, recordLaw_of_noRecords hnone (hnodup hlaw.2.1), by simp [hnone]⟩

/-- R194: reset leaves no records. -/
theorem motorStep_powerUp (command : Instr) (hcommand : command = .reset ∨ command = .resetRelease) (s : State) (held : Bool) :
    MotorStep (some command) s (s.powerUp held) := by
  have hnone : (s.powerUp held).toc.records = [] := rfl
  refine ⟨fun _ _ => ⟨motorLaw_of_noRecords hnone, recordLaw_of_noRecords hnone List.nodup_nil⟩, fun _ r hr => ?_,
    fun _ _ _ => ?_⟩
  · exact nomatch (hr.1 : r ∈ [])
  · rcases hcommand with rfl | rfl
    · exact Or.inr (Or.inr (Or.inr (Or.inl rfl)))
    · exact Or.inr (Or.inr (Or.inr (Or.inr rfl)))

/-- R165: a record made from settled levels is at rest. -/
theorem startLie_ne_moving (i : Inputs) : startLie i ≠ .moving := by
  unfold startLie
  split
  · exact nofun
  · split <;> exact nofun

/-- R165: the end of START leaves a record at rest for each owned turnout, of which a station that is no wayside has none. -/
theorem State.leaveStart_laws (s : State) (hnodup : s.owned.Nodup) (hrole : s.role = some .wayside ∨ s.owned = []) :
    MotorLaw s.leaveStart ∧ RecordLaw s.leaveStart ∧ ∀ r ∈ s.leaveStart.toc.records, r.motor = .off := by
  have hrecords : s.leaveStart.toc.records = s.owned.map fun seg => startRecord seg (s.inputsOf seg) := rfl
  have hrest : ∀ r ∈ s.leaveStart.toc.records, r.motor = .off ∧ r.lie ≠ .moving := by
    intro r hr
    rw [hrecords] at hr
    obtain ⟨seg, -, rfl⟩ := List.mem_map.mp hr
    exact ⟨rfl, startLie_ne_moving _⟩
  refine ⟨fun r hr => ?_, ⟨Or.inl ?_, hnodup, ?_⟩, fun r hr => (hrest r hr).1⟩
  · obtain ⟨hoff, hlie⟩ := hrest r hr
    exact ⟨fun hne => absurd hoff hne, iff_of_false (not_not_intro hoff) hlie⟩
  · rw [hrecords, List.map_map]
    exact List.map_id _
  · rintro (hstart | hfault | hother)
    · exact nomatch hstart
    · exact nomatch hfault
    · rcases hrole with hwayside | hnone
      · exact absurd hwayside hother
      · rw [hrecords, hnone, List.map_nil]

theorem motorStep_leaveStart {s u : State} (command : Option Instr) (hstart : s.mbu.station = .start)
    (hu : RecordLaw s → u.owned.Nodup ∧ (u.role = some .wayside ∨ u.owned = [])) : MotorStep command s u.leaveStart :=
  motorStep_of_start command hstart fun hlaw => u.leaveStart_laws (hu hlaw).1 (hu hlaw).2

/-- R5, R13: the owned list that a good store installs names no turnout twice, and on a carriage it is empty. -/
theorem readStore_owned {store : List Byte} {o : Options} {m : TrackMap} (h : readStore store = .ok (o, m)) :
    m.owned.Nodup ∧ (o.role = .wayside ∨ m.owned = []) := by
  have hchecks : ownersGood (rawRecord store) o = true ∧ m = storeMap store o.station := by
    unfold readStore at h
    dsimp only at h
    repeat' split at h
    all_goals cases h
    exact ⟨by simpa using ‹¬(!ownersGood _ _) = true›, rfl⟩
  obtain ⟨hgood, rfl⟩ := hchecks
  have howned : (storeMap store o.station).owned =
      allSegs.filter fun seg => (segRecOf (rawRecord store seg)).owner == some o.station := by
    simp [storeMap, ownedBy]
  rw [howned]
  refine ⟨(List.nodup_finRange 64).filter _, ?_⟩
  cases hrole : o.role with
  | wayside => exact Or.inl rfl
  | carriage =>
    refine Or.inr (List.filter_eq_nil_iff.mpr fun seg _ howner => ?_)
    simp only [ownersGood, hrole, Bool.and_eq_true, List.all_eq_true, List.mem_filter, beq_iff_eq, bne_iff_ne, and_imp] at hgood
    obtain ⟨⟨hrange, -⟩, hother⟩ := hgood
    rw [beq_iff_eq] at howner
    have hkind : (rawRecord store seg).kind = 3 := by
      unfold segRecOf at howner
      split at howner
      · cases howner
      · cases howner
      · assumption
      · cases howner
    have hmem : seg ∈ allSegs := List.mem_finRange seg
    have hin := (hrange seg hmem hkind).1
    refine hother seg hmem hkind ?_
    rw [segRecOf, hkind] at howner
    have hval := congrArg Fin.val (Option.some.inj howner)
    simp only [within, Bool.and_eq_true, decide_eq_true_eq] at hin
    rw [← hval, Fin.val_ofNat, Nat.mod_eq_of_lt (by omega)]

theorem motorStep_endSettle {s : State} (command : Option Instr) (hstart : s.mbu.station = .start) (inputs : Vector Inputs 4) :
    MotorStep command s (s.endSettle inputs) := by
  unfold State.endSettle
  dsimp only
  split
  · next hwayside =>
    exact motorStep_leaveStart command hstart fun hlaw => ⟨hlaw.2.1, Or.inl (by simpa [State.isWayside] using hwayside)⟩
  · exact motorStep_of_noRecords command hstart rfl id

theorem motorStep_endRead {s : State} (command : Option Instr) (hstart : s.mbu.station = .start) (store : List Byte) (odo : Bool) :
    MotorStep command s (s.endRead store odo) := by
  unfold State.endRead
  split
  · exact motorStep_of_noRecords command hstart rfl id
  · next o m hread =>
    obtain ⟨hnodup, hrole⟩ := readStore_owned hread
    have hopr : ((s.install o m).settleOdometer odo).opr = (s.install o m).opr := by simp
    obtain ⟨hrole', -, -, -, -, -, -, -, howned⟩ := State.of_opr hopr
    unfold State.tryLeaveStart
    split
    · refine motorStep_leaveStart command hstart fun _ => ?_
      rw [hrole', howned]
      exact ⟨hnodup, hrole.imp_left (congrArg some)⟩
    · refine motorStep_of_noRecords command hstart (by simp) fun _ => ?_
      rw [State.owned, State.setToc_opr, hopr]
      exact hnodup

end Sys2Proof.Machine
end

section
/-! The law of the point motors at every command and every step (R163, R171, R173). -/
namespace Sys2Proof.Machine

open Sys2Proof

/-! ## A change of occupancy (R173, R176) -/

/-- R163: the occupancy level after one position's inputs changed. -/
theorem State.setInputs_occupied (s : State) (p : Position) (i : Inputs) (seg : Seg) :
    (s.setInputs p i).occupied seg = if s.position seg = some p then i.occupancy.level else s.occupied seg := by
  have hposition : (s.setInputs p i).position seg = s.position seg := rfl
  unfold State.occupied State.inputsOf
  rw [hposition]
  cases hp : s.position seg with
  | none => rfl
  | some q =>
    by_cases hq : q = p
    · simp [State.setInputs, hq]
    · simp [State.setInputs, hq]

/-- R163: a turnout's position is that of its record. -/
theorem RecordLaw.recordAt_of_position {s : State} (h : RecordLaw s) {q : Record} (hq : q ∈ s.toc.records) {p : Position}
    (hp : s.position q.seg = some p) : s.recordAt p = some q := by
  have howned : s.owned[p.val]? = some q.seg := by simpa [State.position] using List.find?_some hp
  have hsegs : s.toc.segs = s.owned := h.1.resolve_right (List.ne_nil_of_mem hq)
  rw [← hsegs, Toc.segs, List.getElem?_map] at howned
  obtain ⟨r, hr, hseg⟩ := Option.map_eq_some_iff.mp howned
  rw [State.recordAt, hr, Toc.eq_of_seg h.nodup (List.mem_of_getElem? hr) hq hseg]

/-- R163: a station with records follows its inputs. -/
theorem RecordLaw.watching {s : State} (h : RecordLaw s) (hrecords : s.toc.records ≠ []) : s.watching = true := by
  have hservice := mt h.2.2 hrecords
  push Not at hservice
  obtain ⟨hstart, hfault, hrole⟩ := hservice
  cases hstation : s.mbu.station <;>
    simp_all [State.watching, State.isWayside, State.online]

/-- R171: the law but for one turnout. -/
def MotorLawBut (s : State) (seg : Seg) : Prop :=
  ∀ r ∈ s.toc.records, r.seg ≠ seg → (r.motor ≠ .off → s.occupied r.seg = false) ∧ (r.motor ≠ .off ↔ r.lie = .moving)

/-- R173: with the throw ended the law holds of its turnout too. -/
theorem MotorLawBut.stopThrow {s : State} {r : Record} (h : MotorLawBut s r.seg) {lie : Lie} (hlie : lie ≠ .moving)
    (cause : LieCause) : MotorLaw (s.stopThrow r lie cause) := by
  have htoc : (s.stopThrow r lie cause).toc = { s.toc with records := s.toc.records.map fun q =>
      if q.seg = r.seg then { q with motor := .off, throwTimer := none, target := none, answer := none, lie := lie } else q } := by
    rw [stopThrow_eq]
    simp [State.modifyRecord, Toc.modify]
  intro q hq
  rw [State.occupied_congr (s := s) (by simp) (by rw [htoc])]
  rw [htoc] at hq
  obtain ⟨o, ho, rfl⟩ := List.mem_map.mp hq
  split
  · exact ⟨fun hne => absurd rfl hne, iff_of_false (fun hne => hne rfl) hlie⟩
  · next hseg => exact h o ho hseg

/-- R173, R176: a change of occupancy moves the motors, from the new inputs on. -/
theorem MotorMoves.occupancyChange (s : State) (p : Position) (level : Bool) :
    MotorMoves (s.setInputs p { s.toc.inputs[p] with occupancy := .settledAt level }) (s.occupancyChange p level) := by
  have hs1 := MotorMoves.refl (s.setInputs p { s.toc.inputs[p] with occupancy := .settledAt level })
  unfold State.occupancyChange
  dsimp only
  split
  · exact hs1
  · split
    · next r _ =>
      rw [State.occupancyEvent_eq]
      split
      · exact (hs1.guarded r _).occupancyRise r
      · exact hs1.guarded r _
    · exact hs1

/-- R173: the law of the motors at a change of occupancy: a motor that runs where the occupancy rises is off in that event. -/
theorem motorLaw_occupancyChange {s : State} (hmotors : MotorLaw s) (hlaw : RecordLaw s) (p : Position) (level : Bool) :
    MotorLaw (s.occupancyChange p level) := by
  have hmoves := MotorMoves.occupancyChange s p level
  generalize hs1 : s.setInputs p { s.toc.inputs[p] with occupancy := .settledAt level } = s1 at hmoves
  have htoc : s1.toc.records = s.toc.records := by rw [← hs1]; rfl
  have hoccupied : ∀ seg, s1.occupied seg = if s.position seg = some p then level else s.occupied seg := fun seg => by
    rw [← hs1, State.setInputs_occupied]
    rfl
  have hnodup : s1.toc.segs.Nodup := by
    rw [Toc.segs, htoc]
    exact hlaw.nodup
  by_cases hrun : ∃ r, s.recordAt p = some r ∧ r.lie = .moving ∧ level = true ∧ s.toc.inputs[p].occupancy.level = false
  · obtain ⟨r, hr, hlie, rfl, hold⟩ := hrun
    have hmem : r ∈ s.toc.records := List.mem_of_getElem? hr
    have hbut : MotorLawBut (s1.guarded r true) r.seg := by
      have hguarded : (s1.guarded r true).opr = s1.opr ∧ (s1.guarded r true).toc = s1.toc := by
        unfold State.guarded
        split <;> simp
      intro q hq hne
      rw [hguarded.2, htoc] at hq
      have hposition : s.position q.seg ≠ some p := fun hp =>
        hne (congrArg Record.seg (Option.some.inj ((hlaw.recordAt_of_position hq hp).symm.trans hr)))
      rw [State.occupied_congr hguarded.1 (by rw [hguarded.2]), hoccupied, if_neg hposition]
      exact hmotors q hq
    have hchange : s.occupancyChange p true = (s1.guarded r true).endThrow r .failed .occupiedDuringThrow := by
      have hwatch := hlaw.watching (List.ne_nil_of_mem hmem)
      have hr1 : s1.recordAt p = some r := by rw [State.recordAt, htoc]; exact hr
      unfold State.occupancyChange
      simp only [hs1, hwatch, hold, hr1, State.occupancyEvent_eq]
      simp [State.occupancyRise, hlie]
    have hstopped := hbut.stopThrow (lie := .failed) (by decide) .occupiedDuringThrow
    rw [hchange]
    refine (MotorMoves.refl _).followOn.motorLaw hstopped ?_
    have hsegs := ((MotorMoves.refl s1).guarded r true).stopThrow r (lie := .failed) (by decide) .occupiedDuringThrow |>.segs
    rwa [hsegs]
  · refine hmoves.motorLaw (fun q hq => ?_) hnodup
    rw [htoc] at hq
    obtain ⟨hlow, hmoving⟩ := hmotors q hq
    refine ⟨fun hne => ?_, hmoving⟩
    rw [hoccupied]
    split
    · next hp =>
      have hq' := hlaw.recordAt_of_position hq hp
      have hlow' : s.toc.inputs[p].occupancy.level = false := by
        have := hlow hne
        rwa [State.occupied, State.inputsOf, hp] at this
      by_contra hhigh
      exact hrun ⟨q, hq', hmoving.mp hne, by simpa using hhigh, hlow'⟩
    · exact hlow hne

/-! ## Every command -/

/-- R163: a lock level changes no occupancy. -/
theorem MotorMoves.lockChange (s : State) (p : Position) (lock : Points) (level : Bool) :
    MotorMoves s (s.lockChange p lock level) := by
  have hinputs : MotorMoves s (s.setInputs p (s.toc.inputs[p].setLock lock level)) := by
    have hsame : ∀ seg, (s.setInputs p (s.toc.inputs[p].setLock lock level)).occupied seg = s.occupied seg := fun seg => by
      rw [State.setInputs_occupied]
      split
      · next hp =>
        rw [State.occupied, State.inputsOf, hp]
        cases lock <;> rfl
      · rfl
    exact { MotorMoves.refl s with occupied := hsame }
  unfold State.lockChange
  dsimp only
  split
  · exact hinputs
  · split
    · next r hr => exact hinputs.testDetectors (List.mem_of_getElem? hr)
    · exact hinputs

/-- A step that moves the motors from a state with another stagger timer or other inputs, as far as the law of the motors is kept. -/
theorem MotorMoves.motorStep_of_base {s v t : State} (command : Option Instr) (h : MotorMoves v t)
    (hrecords : v.toc.records = s.toc.records) (hopr : v.opr = s.opr) (hmbu : v.mbu = s.mbu)
    (hlaw : MotorLaw s → RecordLaw s → MotorLaw t)
    (hstagger : v.toc.stagger = s.toc.stagger ∨ command = some .staggerExpiry ∨
      (command = none ∧ v.toc.stagger = down s.toc.stagger)) : MotorStep command s t := by
  have hrecordLaw : RecordLaw s → RecordLaw v := by
    intro hs
    have howned : v.owned = s.owned := by rw [State.owned, hopr, State.owned]
    have hrole : v.role = s.role := by rw [State.role, hopr, State.role]
    rwa [RecordLaw, hrecords, howned, hmbu, hrole]
  have hoption : v.option = s.option := State.option_congr hopr
  refine ⟨fun hm hs => ⟨hlaw hm hs, h.recordLaw (hrecordLaw hs)⟩, fun hs r hr => ?_, fun n _ hn => ?_⟩
  · have hstarted : ∀ q, Started s t q ↔ Started v t q := fun q => by rw [Started, Started, hrecords]
    obtain ⟨hnone, hsome, hone⟩ := h.startsOne (hrecordLaw hs).nodup r ((hstarted r).mp hr)
    refine ⟨?_, by rw [hsome, hoption], fun q hq => hone q ((hstarted q).mp hq)⟩
    rcases hstagger with hsame | hexpiry | ⟨-, hdown⟩
    · exact Or.inl (hsame.symm.trans hnone)
    · exact Or.inr hexpiry
    · exact Or.inl (Option.map_eq_none_iff.mp (hdown.symm.trans hnone))
  · rcases hstagger with hsame | hexpiry | ⟨hnone, hdown⟩
    · exact Or.inl (h.stagger.elim (fun ht => (ht.trans hsame).trans hn) fun hv => nomatch (hv.symm.trans hsame).trans hn)
    · exact Or.inr (Or.inr (Or.inl hexpiry))
    · have hv : v.toc.stagger = some (n - 1) := by rw [hdown, hn]; rfl
      exact Or.inr (Or.inl ⟨hnone, h.stagger.elim (·.trans hv) fun hv' => nomatch hv'.symm.trans hv⟩)

/-- A command that writes neither the controller, the options nor the station state. -/
theorem MotorMoves.of_sameBut {i : Instr} {s t : State} (h : exec i s = .next t) (htoc : Block.toc ∉ mayChange i)
    (hopr : Block.opr ∉ mayChange i) (hmbu : Block.mbu ∉ mayChange i) : MotorMoves s t := by
  have hreset : i ≠ .reset := by
    rintro rfl
    exact htoc (by simp [mayChange])
  have hrelease : i ≠ .resetRelease := by
    rintro rfl
    exact htoc (by simp [mayChange])
  obtain ⟨t', ht', hsame⟩ := exec_sameBut i s hreset hrelease
  cases ht'.symm.trans h
  obtain ⟨-, -, hopr', -, -, -, hmbu', -, -, -, htoc', -⟩ := hsame
  exact (MotorMoves.refl s).keeps (htoc'.resolve_left htoc) (hopr'.resolve_left hopr)
    (Or.inl (congrArg Mbu.station (hmbu'.resolve_left hmbu)))

/-- R171: every command keeps the law of the point motors. -/
theorem exec_motorStep (i : Instr) (s t : State) (h : exec i s = .next t) : MotorStep (some i) s t := by
  have hs : MotorMoves s s := .refl s
  have still : MotorStep (some i) s s := hs.motorStep _
  have run : ∀ f : State → State, live f s = .next t → MotorStep (some i) s (f s) → MotorStep (some i) s t := fun f hl hf =>
    live_of (P := MotorStep (some i) s) hl still hf
  have moves : ∀ f : State → State, live f s = .next t → MotorMoves s (f s) → MotorStep (some i) s t := fun f hl hf =>
    run f hl (hf.motorStep _)
  have still_or : ∀ (c : Prop) [Decidable c] (u : State), MotorMoves s u → MotorMoves s (if c then u else s) :=
    fun c _ u hu => by
      split
      · exact hu
      · exact hs
  cases i with
  | reset =>
    cases h
    exact motorStep_powerUp .reset (Or.inl rfl) s true
  | resetRelease =>
    cases h
    split
    · exact motorStep_powerUp .resetRelease (Or.inr rfl) s false
    · exact still
  | storeRetryWait =>
    refine run _ h ?_
    split
    · next hr =>
      have hstart : s.mbu.station = .start := by simpa using (Bool.and_eq_true_iff.mp hr).1
      refine motorStep_of_noRecords _ hstart ?_ ?_
      · unfold State.readFailed
        split <;> simp
      · unfold State.readFailed
        split <;> exact id
    · exact still
  | clockStretchTimeout =>
    refine run _ h ?_
    split
    · next hr =>
      have hstart : s.mbu.station = .start := by simpa using (Bool.and_eq_true_iff.mp hr).1
      exact motorStep_of_noRecords _ hstart rfl id
    · exact still
  | optionReadEnd store odo =>
    refine run _ h ?_
    split
    · next hr =>
      have hstart : s.mbu.station = .start := by simpa using (Bool.and_eq_true_iff.mp hr).1
      exact motorStep_endRead _ hstart store odo
    · exact still
  | detectorSettleEnd p1 p2 p3 p4 =>
    refine run _ h ?_
    split
    · next hr =>
      have hstart : s.mbu.station = .start := by simpa using (Bool.and_eq_true_iff.mp hr).1
      exact motorStep_endSettle _ hstart _
    · exact still
  | settleTimeout p1 p2 p3 p4 =>
    refine run _ h ?_
    split
    · next hr =>
      have hstart : s.mbu.station = .start := by simpa using (Bool.and_eq_true_iff.mp (Bool.and_eq_true_iff.mp hr).1).1
      exact motorStep_endSettle _ hstart _
    · exact still
  | lineIdle | transmitStart | frameStartReceived | holdOffExpiry | lieWaitExpiry _ | keepTimerExpiry | spdPeriodStart
  | odometerCount | tagReceived _ _ _ | filteredOdometerFall | busyTransaction | invalidCommand _ | status | notice
  | readEntry _ | readPeer _ | clearCommand _ | locate _ _ _ | loadRoute _ | cancel | take _ | resume | docked | keep =>
    exact (MotorMoves.of_sameBut h (by simp [mayChange]) (by simp [mayChange]) (by simp [mayChange])).motorStep _
  | arbitrationLost => exact moves _ h (still_or _ _ (MotorMoves.sendOver (hs.same (by simp)) _))
  | clash arbitrated => exact moves _ h (still_or _ _ (hs.clashSend arbitrated))
  | stuffError recessive => exact moves _ h (still_or _ _ (hs.stuffError recessive))
  | breakEnd => exact moves _ h (still_or _ _ hs.endBreak)
  | frameClassify f =>
    simp only [exec, execFrameClassify] at h
    refine moves _ h ?_
    split
    · exact hs
    · split
      · exact hs.same (by simp)
      · exact hs.classifyOther _ f
      · exact hs
  | vetoSlotEnd dominant =>
    simp only [exec, execVetoSlotEnd] at h
    refine moves _ h ?_
    split
    · exact hs
    · exact still_or _ _ (hs.readVeto _ dominant)
  | driveFailure =>
    simp only [exec, execDriveFailure] at h
    refine moves _ h ?_
    split
    · exact hs
    · split
      · exact hs.readVeto _ false
      · exact still_or _ _ (hs.relisten _)
  | frameRejected slots =>
    simp only [exec, execFrameRejected] at h
    refine moves _ h ?_
    split
    · exact hs
    · exact still_or _ _ (hs.rejectFrame _)
  | beaconTaken slots | claimTaken slots | reclaimTaken slots | releaseTaken slots | lapseTaken slots | clearTaken slots
  | guardTaken slots | lieTaken slots => exact moves _ h (hs.takenRow _ slots)
  | listenTimerExpiry => exact moves _ h (still_or _ _ (MotorMoves.completionTest (hs.same (by exact ⟨rfl, rfl, rfl⟩))))
  | listenLimitExpiry => exact moves _ h (still_or _ _ (hs.same (by exact ⟨rfl, rfl, rfl⟩)))
  | ownLeaseExpiry => exact moves _ h (still_or _ _ (hs.relisten _))
  | remoteLeaseExpiry peer =>
    refine moves _ h (still_or _ _ (hs.keeps (by simp) (by simp) (Or.inl ?_)))
    unfold State.expirePeer
    dsimp only
    split <;> simp [State.setPeer]
  | beaconTimerExpiry => exact moves _ h (still_or _ _ (hs.same (by simp)))
  | lockLevelChange position lock level =>
    simp only [exec, execLockLevelChange] at h
    exact moves _ h (.lockChange s position lock level)
  | occupancyChange position level =>
    simp only [exec, execOccupancyChange] at h
    exact run _ h ((MotorMoves.occupancyChange s position level).motorStep_of_base _ rfl rfl rfl
      (fun hm hl => motorLaw_occupancyChange hm hl position level) (Or.inl rfl))
  | throwTimerExpiry position =>
    simp only [exec, execThrowTimerExpiry] at h
    refine moves _ h ?_
    split
    · exact still_or _ _ (hs.endThrow _ (by decide) _)
    · exact hs
  | staggerExpiry =>
    refine run _ h ?_
    split
    · have hpump : MotorMoves (s.setToc { s.toc with stagger := none }) (s.setToc { s.toc with stagger := none }).pump :=
        (MotorMoves.refl _).pump
      exact hpump.motorStep_of_base _ rfl rfl rfl (fun hm hl => hpump.motorLaw hm hl.nodup) (Or.inr (Or.inl rfl))
    · exact still
  | possess segments => exact moves _ h (hs.transact _ _ (hs.judge _ _ (hs.possess _)))
  | unpossess => exact moves _ h (hs.transact _ _ (hs.judge _ _ hs.unpossess))
  | throw segment lie => exact moves _ h (hs.transact _ _ (hs.throwAct _ _))

/-- R171: and so does a millisecond (log entry 1). -/
theorem motorStep_tick (s : State) : MotorStep none s s.tick := by
  unfold State.tick
  split
  · exact (MotorMoves.refl s).motorStep none
  · have htick : MotorMoves (s.setToc { s.toc with stagger := down s.toc.stagger })
        ((((s.setMbu s.mbu.tick).setRte s.rte.tick).setMou s.mou.tick).setToc s.toc.tick) :=
      (MotorMoves.refl _).mapRecords Record.tick (fun _ => rfl) (fun _ r _ => .goesOn rfl Iff.rfl) rfl rfl rfl rfl (Or.inl rfl)
    exact htick.motorStep_of_base none rfl rfl rfl (fun hm hl => htick.motorLaw hm hl.nodup) (Or.inr (Or.inr ⟨rfl, rfl⟩))

theorem step_motorStep (s t : State) (h : step s = .next t) : MotorStep s.pending.head? s t := by
  unfold step at h
  split at h
  · next hp =>
    cases h
    rw [hp]
    exact motorStep_tick s
  · next i rest hp =>
    rw [hp]
    obtain ⟨hlaws, hstarts, hstagger⟩ := exec_motorStep i _ t h
    exact ⟨hlaws, hstarts, hstagger⟩

/-- Settles O60: a step is a millisecond or a command, and each moves the motors as `MotorMoves` says, from the inputs and the stagger timer that it finds or, at
their own events, gives (`exec_motorStep`); where the occupancy rises the throw has ended before a follow-on is looked at (`motorLaw_occupancyChange`). -/
theorem stepsKeepTheMotorLaw : Obligations.StepsKeepTheMotorLaw := by
  refine ⟨fun s t hmotors hlaw hstep => (step_motorStep s t hstep).laws hmotors hlaw, fun s t r _ hlaw hstep hr =>
    (step_motorStep s t hstep).starts hlaw r hr, fun s t n hstart hn hstep => ?_⟩
  rcases (step_motorStep s t hstep).stagger n hstart hn with hsame | ⟨hnone, hdown⟩ | hcommand
  · exact Or.inl hsame
  · exact Or.inr (Or.inl ⟨List.head?_eq_none_iff.mp hnone, hdown⟩)
  · exact Or.inr (Or.inr hcommand)

end Sys2Proof.Machine
end

section
/-! The settle of START (R164, R165). -/
namespace Sys2Proof.Machine

open Sys2Proof

/-- R164: an end of the settle, by its inputs or at the limit. -/
theorem exec_settleEnd {s : State} {i : Instr} {inputs : Vector Inputs 4} (hrun : s.inReset = false)
    (hstart : s.mbu.station = .start) (hsettled : s.toc.settled = false)
    (hi : (∃ p1 p2 p3 p4, i = .detectorSettleEnd p1 p2 p3 p4 ∧
        inputs = ⟨#[inputsOfLevels p1, inputsOfLevels p2, inputsOfLevels p3, inputsOfLevels p4], rfl⟩) ∨
      (∃ p1 p2 p3 p4, i = .settleTimeout p1 p2 p3 p4 ∧ s.toc.settleLimit.isSome = true ∧
        inputs = ⟨#[inputsAtLimit p1, inputsAtLimit p2, inputsAtLimit p3, inputsAtLimit p4], rfl⟩)) :
    exec i s = .next (s.endSettle inputs) := by
  have hsettling : s.isSettling = true := by simp [State.isSettling, hstart, hsettled]
  rcases hi with ⟨p1, p2, p3, p4, rfl, rfl⟩ | ⟨p1, p2, p3, p4, rfl, hlimit, rfl⟩
  · change live _ s = _
    rw [live_next _ s hrun, if_pos hsettling]
  · change live _ s = _
    rw [live_next _ s hrun, if_pos (by simp [hsettling, hlimit])]

/-- R164: on any other station the levels are kept, and that is all. -/
theorem State.endSettle_other {s : State} (inputs : Vector Inputs 4) (h : s.role ≠ some .wayside) :
    s.endSettle inputs = s.setToc { s.toc with inputs := inputs, settled := true, settleLimit := none } := by
  refine if_neg ?_
  rw [State.isWayside, beq_iff_eq]
  exact h

theorem State.endSettle_wayside {s : State} (inputs : Vector Inputs 4) (h : s.role = some .wayside) :
    s.endSettle inputs =
      (s.setToc { s.toc with inputs := inputs, settled := true, settleLimit := none }).leaveStart := by
  refine if_pos ?_
  rw [State.isWayside, beq_iff_eq]
  exact h

/-- R165: the lie that the lock detectors show at the end of START. -/
theorem startLie_of_unsettled {i : Inputs} (h : i.normalLock.settled = false ∨ i.reverseLock.settled = false) :
    startLie i = .failed := by
  rcases h with h | h <;> simp [startLie, h]

theorem startLie_of_settled {i : Inputs} (hn : i.normalLock.settled = true) (hr : i.reverseLock.settled = true) :
    startLie i =
      match i.normalLock.level, i.reverseLock.level with
      | true, false => .normal
      | false, true => .reverse
      | false, false => .unknown
      | true, true => .failed := if_neg (by simp [hn, hr])

/-- Settles O8: with the inputs kept, the end of START makes the records, starts the stagger timer and enters LISTEN. -/
theorem settleMakesTheRecords : Obligations.SettleMakesTheRecords := by
  unfold Obligations.SettleMakesTheRecords
  refine ⟨fun s i inputs hrun hstart hsettled hi => ⟨fun hrole => ?_, fun o m hoptions hwayside hmap => ?_⟩, fun i =>
    ⟨startLie_of_unsettled, startLie_of_settled⟩⟩
  · rw [exec_settleEnd hrun hstart hsettled hi, State.endSettle_other inputs hrole]
  · have hrole : s.role = some .wayside := by simp [State.role, hoptions, hwayside]
    refine ⟨_, exec_settleEnd hrun hstart hsettled hi, ?_⟩
    rw [State.endSettle_wayside inputs hrole]
    have howned : m.owned = s.owned := by rw [State.owned, hmap]; rfl
    have hstagger : 100 * o.staggerCode = Config.codeUnit * s.option (·.staggerCode) := by
      simp [State.option, hoptions, Config.codeUnit]
    have htimer : (s.setToc { s.toc with inputs := inputs, settled := true, settleLimit := none }).isWayside = true := by
      rw [State.isWayside, beq_iff_eq]
      exact hrole
    refine ⟨?_, rfl, rfl, rfl, rfl, rfl, rfl, rfl⟩
    rw [howned, hstagger]
    simp only [State.leaveStart, State.startToc, htimer, if_true]
    rfl

end Sys2Proof.Machine
end

section
/-! Lock detectors, the ends of a throw and its follow-on (R166 to R169, R172). -/
namespace Sys2Proof.Machine

open Sys2Proof

/-! ## A lock level -/

@[simp] theorem pointsOther_pointsOther (l : Points) : pointsOther (pointsOther l) = l := by cases l <;> rfl

/-- R164: the state with one filtered lock level changed. -/
def State.lockSet (s : State) (p : Position) (m : Points) (b : Bool) : State :=
  s.setInputs p (s.toc.inputs[p].setLock m b)

theorem State.lockSet_eq (s : State) (p : Position) (m : Points) (b : Bool) :
    s.lockSet p m b = s.setToc { s.toc with inputs := tabSet s.toc.inputs p (s.toc.inputs[p].setLock m b) } := rfl

section
variable {s : State} {p : Position} {r : Record}

theorem State.lockSet_lockHigh (hp : s.position r.seg = some p) (m : Points) (b : Bool) :
    (s.lockSet p m b).lockHigh r.seg m = b := by
  rw [State.lockHigh, State.lockSet, inputsOf_at s p r _ hp]
  exact (lock_set _ m b).1

theorem State.lockSet_lockHigh_other (hp : s.position r.seg = some p) (m : Points) (b : Bool) :
    (s.lockSet p m b).lockHigh r.seg (pointsOther m) = (s.toc.inputs[p].lock (pointsOther m)).level := by
  rw [State.lockHigh, State.lockSet, inputsOf_at s p r _ hp]
  exact (lock_set _ m b).2

/-- The change of the lock that the points leave. -/
theorem State.lockSet_other_lockHigh (hp : s.position r.seg = some p) (l : Points) (b : Bool) :
    (s.lockSet p (pointsOther l) b).lockHigh r.seg l = (s.toc.inputs[p].lock l).level := by
  simpa using State.lockSet_lockHigh_other hp (pointsOther l) b

/-- R164: a level that the filtered input shows already is no event. -/
theorem State.lockChange_of_same {m : Points} {b : Bool} (h : (s.toc.inputs[p].lock m).level = b) :
    s.lockChange p m b = s.lockSet p m b := if_pos (by rw [h, beq_self_eq_true, Bool.or_true])

theorem State.lockChange_of_change {m : Points} {b : Bool} (hwatch : s.watching = true) (hr : s.toc.records[p.val]? = some r)
    (h : (s.toc.inputs[p].lock m).level ≠ b) : s.lockChange p m b = (s.lockSet p m b).testDetectors r := by
  have hr1 : (s.lockSet p m b).recordAt p = some r := hr
  have hevent : ¬(!s.watching || (s.toc.inputs[p].lock m).level == b) = true := by
    rw [hwatch, beq_eq_false_iff_ne.mpr h]
    decide
  refine (if_neg hevent).trans ?_
  change (match (s.lockSet p m b).recordAt p with
    | some r => (s.lockSet p m b).testDetectors r
    | none => s.lockSet p m b) = _
  rw [hr1]

theorem exec_lockLevelChange (h : s.inReset = false) (m : Points) (b : Bool) :
    exec (.lockLevelChange p m b) s = .next (s.lockChange p m b) := by
  change execLockLevelChange p m b s = _
  rw [execLockLevelChange, live_next _ s h]

end

/-! ## The tests (R166, R167, R172) -/

section
variable {s : State} {r : Record} {l : Points}

theorem State.testDetectors_locked (h : r.lie = pointsLie l) : s.testDetectors r = s.testLocked r l := by
  cases l <;> rw [State.testDetectors, h] <;> rfl

theorem State.testDetectors_lost (h : r.lie = .failed ∨ r.lie = .unknown) : s.testDetectors r = s.testLost r := by
  rcases h with h | h <;> rw [State.testDetectors, h]

theorem State.testDetectors_runs (h : r.lie = .moving) (hend : s.throwEnd r = none) : s.testDetectors r = s := by
  rw [State.testDetectors, h]
  simp only [hend]

theorem State.testDetectors_ends (h : r.lie = .moving) {e : Lie × LieCause} (hend : s.throwEnd r = some e) :
    s.testDetectors r = s.endThrow r e.1 e.2 := by
  rw [State.testDetectors, h]
  simp only [hend]

theorem State.testLocked_lost (h : s.lockHigh r.seg l = false) :
    s.testLocked r l = s.reportLie r.seg .failed .lockLost none := if_pos (by simp [h])

theorem State.testLocked_conflict (h : s.lockHigh r.seg l = true) (hother : s.lockHigh r.seg (pointsOther l) = true) :
    s.testLocked r l = s.reportLie r.seg .failed .detectorConflict none := by
  simp [State.testLocked, h, hother]

theorem State.testLocked_stands (h : s.lockHigh r.seg l = true) (hother : s.lockHigh r.seg (pointsOther l) = false) :
    s.testLocked r l = s := by
  simp [State.testLocked, h, hother]

theorem State.testLost_shows (h : s.lockHigh r.seg l = true) (hother : s.lockHigh r.seg (pointsOther l) = false) :
    s.testLost r = s.reportLie r.seg (pointsLie l) .report (s.holderAnswer r.seg) := by
  cases l <;> simp_all [State.testLost, pointsOther, pointsLie]

theorem State.testLost_alike (h : s.lockHigh r.seg l = s.lockHigh r.seg (pointsOther l)) : s.testLost r = s := by
  have hboth : s.lockHigh r.seg .normal = s.lockHigh r.seg .reverse := by
    cases l
    · exact h
    · exact h.symm
  unfold State.testLost
  rw [hboth]
  cases s.lockHigh r.seg .reverse <;> rfl

theorem State.throwEnd_low (ht : r.target = some l) (h : s.lockHigh r.seg l = false) : s.throwEnd r = none := by
  simp [State.throwEnd, ht, h]

/-- R172: how a throw ends when its target's lock shows, by the level of the other lock. -/
def shownEnd (l : Points) (conflict : Bool) : Lie × LieCause :=
  if conflict then (.failed, .detectorConflict) else (pointsLie l, .done)

theorem State.throwEnd_high (ht : r.target = some l) (h : s.lockHigh r.seg l = true) :
    s.throwEnd r = some (shownEnd l (s.lockHigh r.seg (pointsOther l))) := by
  cases hother : s.lockHigh r.seg (pointsOther l) <;> simp [State.throwEnd, ht, h, hother, shownEnd]

/-- R175: the cause and answer part with which a throw that its target's lock ends is reported. -/
theorem lieRequest_shownEnd (l : Points) (conflict : Bool) (answer : Option Answer) :
    lieRequest (shownEnd l conflict).2 answer =
      if conflict then (.detectorConflict, answer.filter fun a => a.tag.isSome)
      else (if answer.any fun a => a.tag.isNone then .report else .done, answer) := by
  cases conflict
  · exact lieRequest_done answer
  · exact lieReq_tagless .detectorConflict answer (by decide)

end

/-! ## A lie reported (R166, R175) -/

theorem State.reportLie_toc (s : State) (seg : Seg) (lie : Lie) (cause : LieCause) (answer : Option Answer) :
    (s.reportLie seg lie cause answer).toc = { s.toc with records := s.toc.records.map fun q => if q.seg = seg then { q with lie := lie } else q } := by
  simp [reportLie_eq, State.modifyRecord, Toc.modify]

theorem State.reportLie_dpt (s : State) (seg : Seg) (lie : Lie) (cause : LieCause) (answer : Option Answer) :
    (s.reportLie seg lie cause answer).dpt = s.dpt.post (.throwing seg lie (lieRequest cause answer).1) := by
  simp [reportLie_eq, State.modifyRecord]

theorem State.reportLie_txq (s : State) (seg : Seg) (lie : Lie) (cause : LieCause) (answer : Option Answer) :
    (s.reportLie seg lie cause answer).txq =
      (s.txRequest (.lie seg) (.lie (lieRequest cause answer).1 (lieRequest cause answer).2)).txq := by
  rw [reportLie_eq]
  exact State.txRequest_txq_congr (by simp [State.modifyRecord]) (by simp [State.modifyRecord]) (by simp [State.modifyRecord]) _ _

/-! ## The end of a throw and its follow-on (R169, R172) -/

theorem State.modifyRecord_post (s : State) (n : Notice) (seg : Seg) (f : Record → Record) :
    (s.post n).modifyRecord seg f = (s.modifyRecord seg f).post n := rfl

theorem State.modifyRecord_txRequest (s : State) (key : EntryKey) (args : Args) (seg : Seg) (f : Record → Record) :
    (s.txRequest key args).modifyRecord seg f = (s.modifyRecord seg f).txRequest key args := by
  rw [State.modifyRecord, State.modifyRecord, State.txRequest_setToc]
  simp

/-- R172: a throw ended with its follow-on taken from the record. -/
def State.throwOver (s : State) (r : Record) (lie : Lie) (cause : LieCause) (answer : Option Answer) : State :=
  ((s.setToc { s.toc with records := s.toc.records.map fun q =>
      if q.seg = r.seg then
        { q with motor := .off, throwTimer := none, target := none, answer := none, followOn := none, lie := lie }
      else q }).post (.throwing r.seg lie cause)).txRequest (.lie r.seg) (.lie cause answer)

theorem State.stopThrow_toc (s : State) (r : Record) (lie : Lie) (cause : LieCause) :
    (s.stopThrow r lie cause).toc = { s.toc with records := s.toc.records.map fun q =>
      if q.seg = r.seg then { q with motor := .off, throwTimer := none, target := none, answer := none, lie := lie } else q } := by
  rw [stopThrow_eq]
  simp [State.modifyRecord, Toc.modify]

theorem State.stopThrow_dpt (s : State) (r : Record) (lie : Lie) (cause : LieCause) :
    (s.stopThrow r lie cause).dpt = s.dpt.post (.throwing r.seg lie (lieRequest cause r.answer).1) := by
  rw [stopThrow_eq]
  simp [State.modifyRecord]

theorem State.stopThrow_txq (s : State) (r : Record) (lie : Lie) (cause : LieCause) :
    (s.stopThrow r lie cause).txq =
      (s.txRequest (.lie r.seg) (.lie (lieRequest cause r.answer).1 (lieRequest cause r.answer).2)).txq := by
  rw [stopThrow_eq]
  exact State.txRequest_txq_congr (by simp [State.modifyRecord]) (by simp [State.modifyRecord]) (by simp [State.modifyRecord]) _ _

theorem State.endThrow_of_none {s : State} {r : Record} (h : r.followOn = none) (lie : Lie) (cause : LieCause) :
    s.endThrow r lie cause = s.stopThrow r lie cause := by
  simp only [State.endThrow, h]

/-- R172: a throw ended and its follow-on dropped. -/
theorem State.stopThrow_dropFollowOn (s : State) (r : Record) (lie : Lie) (cause : LieCause) :
    ((s.stopThrow r lie cause).modifyRecord r.seg fun q => { q with followOn := none }) =
      s.throwOver r lie (lieRequest cause r.answer).1 (lieRequest cause r.answer).2 := by
  rw [stopThrow_eq, State.modifyRecord_txRequest, State.modifyRecord_post]
  rw [modify_modify s r.seg (fun q => { q with motor := .off, throwTimer := none, target := none, answer := none, lie := lie })
    _ fun _ => rfl]
  rfl

/-- R169: a follow-on is a won turnout when its claim stands, or is dropped. -/
theorem State.endThrow_of_followOn {s : State} {r : Record} {f : FollowOn} (h : r.followOn = some f) {lie : Lie} {cause : LieCause}
    {sent : LieCause × Option Answer} (hsent : lieRequest cause r.answer = sent) :
    (s.ctu[r.seg].claim = .held f.answer.claimant (some f.target) →
      s.endThrow r lie cause = (s.throwOver r lie sent.1 sent.2).wonTurnout r.seg (some f.target) f.answer) ∧
    (s.ctu[r.seg].claim ≠ .held f.answer.claimant (some f.target) →
      s.endThrow r lie cause = s.throwOver r lie sent.1 sent.2) := by
  have hstands : (s.throwOver r lie sent.1 sent.2).followStands r.seg f = true ↔
      s.ctu[r.seg].claim = .held f.answer.claimant (some f.target) := by
    simp [State.followStands, State.throwOver]
  simp only [State.endThrow, h, State.stopThrow_dropFollowOn, hsent]
  exact ⟨fun hclaim => if_pos (hstands.mpr hclaim), fun hclaim => if_neg (mt hstands.mp hclaim)⟩

theorem exec_throwTimerExpiry {s : State} {p : Position} {r : Record} (h : s.inReset = false)
    (hr : s.toc.records[p.val]? = some r) (htimer : r.throwTimer.isSome = true) :
    exec (.throwTimerExpiry p) s = .next (s.endThrow r .failed .timeout) := by
  have hr1 : s.recordAt p = some r := hr
  change execThrowTimerExpiry p s = _
  rw [execThrowTimerExpiry, live_next _ s h, hr1]
  exact congrArg _ (if_pos htimer)

/-- R167, R172: the lock of the target comes up and the throw ends by it. -/
theorem State.lockChange_ends {s : State} {p : Position} {r : Record} {l : Points} (hwatch : s.watching = true)
    (hp : s.position r.seg = some p) (hr : s.toc.records[p.val]? = some r) (hlie : r.lie = .moving) (ht : r.target = some l)
    (hlow : (s.toc.inputs[p].lock l).level = false) :
    s.lockChange p l true = (s.lockSet p l true).endThrow r
      (shownEnd l (s.toc.inputs[p].lock (pointsOther l)).level).1 (shownEnd l (s.toc.inputs[p].lock (pointsOther l)).level).2 := by
  rw [State.lockChange_of_change hwatch hr (by rw [hlow]; decide),
    State.testDetectors_ends hlie (State.throwEnd_high ht (State.lockSet_lockHigh hp l true)), State.lockSet_lockHigh_other hp]

/-- R166, R167, R172: the changes of a lock level that end nothing. -/
theorem State.lockChange_idle {s : State} {p : Position} {r : Record} {l m : Points} {b : Bool} (hwatch : s.watching = true)
    (hp : s.position r.seg = some p) (hr : s.toc.records[p.val]? = some r)
    (h : (s.toc.inputs[p].lock m).level = b ∨
      (r.lie = pointsLie l ∧ (s.toc.inputs[p].lock l).level = true ∧ m = pointsOther l ∧ b = false) ∨
      ((r.lie = .failed ∨ r.lie = .unknown) ∧ (s.toc.inputs[p].lock (pointsOther m)).level = b) ∨
      (r.lie = .moving ∧ r.target = some l ∧
        ((m = l ∧ b = false) ∨ (m = pointsOther l ∧ (s.toc.inputs[p].lock l).level = false)))) :
    s.lockChange p m b = s.lockSet p m b := by
  by_cases hsame : (s.toc.inputs[p].lock m).level = b
  · exact State.lockChange_of_same hsame
  rw [State.lockChange_of_change hwatch hr hsame]
  rcases h with hlevel | ⟨hlie, hhigh, rfl, rfl⟩ | ⟨hlie, hother⟩ | ⟨hlie, ht, hlow⟩
  · exact absurd hlevel hsame
  · rw [State.testDetectors_locked hlie]
    exact State.testLocked_stands ((State.lockSet_other_lockHigh hp l false).trans hhigh) (State.lockSet_lockHigh hp _ false)
  · rw [State.testDetectors_lost hlie]
    refine State.testLost_alike (l := m) ?_
    rw [State.lockSet_lockHigh hp, State.lockSet_lockHigh_other hp, hother]
  · have hend : (s.lockSet p m b).throwEnd r = none := by
      refine State.throwEnd_low ht ?_
      rcases hlow with ⟨rfl, rfl⟩ | ⟨rfl, hlow⟩
      · exact State.lockSet_lockHigh hp _ false
      · rwa [State.lockSet_other_lockHigh hp]
    exact State.testDetectors_runs hlie hend

/-- R166: a locked turnout that its detectors no longer show locked. -/
theorem State.lockChange_lost {s : State} {p : Position} {r : Record} {l : Points} (hwatch : s.watching = true)
    (hp : s.position r.seg = some p) (hr : s.toc.records[p.val]? = some r) (hlie : r.lie = pointsLie l)
    (hhigh : (s.toc.inputs[p].lock l).level = true) :
    s.lockChange p l false = (s.lockSet p l false).reportLie r.seg .failed .lockLost none := by
  rw [State.lockChange_of_change hwatch hr (by rw [hhigh]; decide), State.testDetectors_locked hlie,
    State.testLocked_lost (State.lockSet_lockHigh hp l false)]

theorem State.lockChange_conflict {s : State} {p : Position} {r : Record} {l : Points} (hwatch : s.watching = true)
    (hp : s.position r.seg = some p) (hr : s.toc.records[p.val]? = some r) (hlie : r.lie = pointsLie l)
    (hhigh : (s.toc.inputs[p].lock l).level = true) (hother : (s.toc.inputs[p].lock (pointsOther l)).level = false) :
    s.lockChange p (pointsOther l) true =
      (s.lockSet p (pointsOther l) true).reportLie r.seg .failed .detectorConflict none := by
  rw [State.lockChange_of_change hwatch hr (by rw [hother]; decide), State.testDetectors_locked hlie,
    State.testLocked_conflict ((State.lockSet_other_lockHigh hp l true).trans hhigh) (State.lockSet_lockHigh hp _ true)]

/-- R167: a lost turnout that comes to show one lock. -/
theorem State.lockChange_shows {s : State} {p : Position} {r : Record} {l m : Points} {b : Bool} (hwatch : s.watching = true)
    (hp : s.position r.seg = some p) (hr : s.toc.records[p.val]? = some r) (hlie : r.lie = .failed ∨ r.lie = .unknown)
    (h : (m = l ∧ b = true ∧ (s.toc.inputs[p].lock l).level = false ∧ (s.toc.inputs[p].lock (pointsOther l)).level = false) ∨
      (m = pointsOther l ∧ b = false ∧ (s.toc.inputs[p].lock l).level = true ∧
        (s.toc.inputs[p].lock (pointsOther l)).level = true)) :
    s.lockChange p m b = (s.lockSet p m b).reportLie r.seg (pointsLie l) .report (s.holderAnswer r.seg) := by
  have hchange : (s.toc.inputs[p].lock m).level ≠ b := by
    rcases h with ⟨rfl, rfl, hlow, -⟩ | ⟨rfl, rfl, -, hhigh⟩
    · rw [hlow]
      decide
    · rw [hhigh]
      decide
  have hshows : (s.lockSet p m b).lockHigh r.seg l = true ∧ (s.lockSet p m b).lockHigh r.seg (pointsOther l) = false := by
    rcases h with ⟨rfl, rfl, -, hother⟩ | ⟨rfl, rfl, hhigh, -⟩
    · exact ⟨State.lockSet_lockHigh hp _ true, (State.lockSet_lockHigh_other hp _ true).trans hother⟩
    · exact ⟨(State.lockSet_other_lockHigh hp l false).trans hhigh, State.lockSet_lockHigh hp _ false⟩
  rw [State.lockChange_of_change hwatch hr hchange, State.testDetectors_lost hlie,
    State.testLost_shows hshows.1 hshows.2]
  rfl

/-- Settles O45: a change of a lock level tests the record on the new levels, and the throw timer ends the throw. -/
theorem detectorsAndTimeoutEndThrows : Obligations.DetectorsAndTimeoutEndThrows := by
  unfold Obligations.DetectorsAndTimeoutEndThrows
  intro s p r l hrun hr
  dsimp only
  have hreport : ∀ (m : Points) (b : Bool) (lie : Lie) (cause : LieCause) (answer : Option Answer)
      (sent : LieCause × Option Answer), lieRequest cause answer = sent →
      s.lockChange p m b = (s.lockSet p m b).reportLie r.seg lie cause answer →
      ∃ t, exec (.lockLevelChange p m b) s = .next t ∧
        t.toc = { s.toc with
          inputs := tabSet s.toc.inputs p (s.toc.inputs[p].setLock m b)
          records := s.toc.records.map fun q => if q.seg = r.seg then { q with lie := lie } else q } ∧
        t.dpt = s.dpt.post (.throwing r.seg lie sent.1) ∧
        t.txq = (s.txRequest (.lie r.seg) (.lie sent.1 sent.2)).txq := by
    rintro m b lie cause answer sent rfl hchange
    refine ⟨_, exec_lockLevelChange hrun m b, ?_⟩
    rw [hchange, State.reportLie_toc, State.reportLie_dpt, State.reportLie_txq]
    exact ⟨rfl, rfl, State.txRequest_txq_congr (by rfl) (by rfl) (by rfl) _ _⟩
  refine ⟨fun hwatch hp => ⟨?_, ?_, ?_, ?_, ?_⟩, fun htimer => ⟨?_, ?_⟩⟩
  · intro m b h
    rw [exec_lockLevelChange hrun, State.lockChange_idle hwatch hp hr h, State.lockSet_eq]
  · intro hlie hhigh
    exact ⟨hreport _ _ _ _ _ _ rfl (State.lockChange_lost hwatch hp hr hlie hhigh), fun hother =>
      hreport _ _ _ _ _ _ rfl (State.lockChange_conflict hwatch hp hr hlie hhigh hother)⟩
  · intro m b hlie h
    exact hreport _ _ _ _ _ _ (lieRequest_report _) (State.lockChange_shows hwatch hp hr hlie h)
  · intro hlie ht hfollow hlow
    have hends := State.lockChange_ends hwatch hp hr hlie ht hlow
    rw [State.endThrow_of_none hfollow] at hends
    constructor
    all_goals
      intro hother
      refine ⟨_, exec_lockLevelChange hrun l true, ?_⟩
      rw [hends, State.stopThrow_toc, State.stopThrow_dpt, State.stopThrow_txq, lieRequest_shownEnd, hother]
      exact ⟨rfl, rfl, State.txRequest_txq_congr (by rfl) (by rfl) (by rfl) _ _⟩
  · rintro f lie cause answer u hlie ht hfollow hlow hend rfl
    rw [exec_lockLevelChange hrun, State.lockChange_ends hwatch hp hr hlie ht hlow]
    have hends : (shownEnd l (s.toc.inputs[p].lock (pointsOther l)).level).1 = lie ∧
        lieRequest (shownEnd l (s.toc.inputs[p].lock (pointsOther l)).level).2 r.answer = (cause, answer) := by
      rw [lieRequest_shownEnd]
      rcases hend with ⟨hother, rfl, rfl, rfl⟩ | ⟨hother, rfl, rfl, rfl⟩ <;> rw [hother] <;> exact ⟨rfl, rfl⟩
    obtain ⟨hlieEnd, hsent⟩ := hends
    obtain ⟨hwon, hdropped⟩ := State.endThrow_of_followOn (s := s.lockSet p l true) hfollow (lie := lie) hsent
    rw [hlieEnd]
    exact ⟨fun hclaim => congrArg _ (hwon hclaim), fun hclaim => congrArg _ (hdropped hclaim)⟩
  · intro hfollow
    rw [exec_throwTimerExpiry hrun hr htimer, State.endThrow_of_none hfollow, stopThrow_eq,
      lieReq_tagless .timeout r.answer (by decide)]
    rfl
  · rintro f u hfollow rfl
    rw [exec_throwTimerExpiry hrun hr htimer]
    obtain ⟨hwon, hdropped⟩ := State.endThrow_of_followOn (s := s) hfollow (lie := .failed)
      (lieReq_tagless .timeout r.answer (by decide))
    exact ⟨fun hclaim => congrArg _ (hwon hclaim), fun hclaim => congrArg _ (hdropped hclaim)⟩

end Sys2Proof.Machine
end

section
/-! The start checks and the motor start at the stagger's expiry (R171, R172). -/
namespace Sys2Proof.Machine

open Sys2Proof

/-! ## A motor that starts -/

/-- R163: the record of a segment after each record was changed within its segment. -/
theorem Toc.record_map_of_seg {c d : Toc} {seg : Seg} {r : Record} (f : Record → Record)
    (hd : d.records = c.records.map fun q => if q.seg = seg then f q else q) (hf : ∀ q, q.seg = seg → (f q).seg = seg)
    (hr : c.record seg = some r) : d.record seg = some (f r) := by
  rw [Toc.record_map _ hd (fun q => ?_), hr, Option.map_some, if_pos (Toc.record_seg hr)]
  split
  · next hq => exact (hf q hq).trans hq.symm
  · rfl

theorem Toc.record_map_of_ne {c d : Toc} {seg other : Seg} (f : Record → Record)
    (hd : d.records = c.records.map fun q => if q.seg = seg then f q else q) (hf : ∀ q, q.seg = seg → (f q).seg = seg)
    (hne : other ≠ seg) : d.record other = c.record other := by
  rw [Toc.record_map _ hd (fun q => ?_)]
  · cases hr : c.record other with
    | none => rfl
    | some q => rw [Option.map_some, if_neg ((Toc.record_seg hr).trans_ne hne)]
  · split
    · next hq => exact (hf q hq).trans hq.symm
    · rfl

theorem State.motorStarted_record {s : State} {r q : Record} (target : Points) (h : s.toc.record r.seg = some q) :
    (s.motorStarted r target).toc.record r.seg = some (s.startedRecord r target) :=
  Toc.record_map_of_seg (fun _ => s.startedRecord r target) (congrArg Toc.records (s.motorStarted_toc r target))
    (fun _ _ => rfl) h

theorem State.motorStarted_record_of_ne (s : State) (r : Record) (target : Points) {other : Seg} (hne : other ≠ r.seg) :
    (s.motorStarted r target).toc.record other = s.toc.record other :=
  Toc.record_map_of_ne (fun _ => s.startedRecord r target) (congrArg Toc.records (s.motorStarted_toc r target))
    (fun _ _ => rfl) hne

theorem State.stopThrow_record {s : State} {r q : Record} (lie : Lie) (cause : LieCause) (h : s.toc.record r.seg = some q) :
    (s.stopThrow r lie cause).toc.record r.seg =
      some { q with motor := .off, throwTimer := none, target := none, answer := none, lie := lie } :=
  Toc.record_map_of_seg (fun q => { q with motor := .off, throwTimer := none, target := none, answer := none, lie := lie })
    (congrArg Toc.records (s.stopThrow_toc r lie cause)) (fun _ hq => hq) h

theorem State.stopThrow_record_of_ne (s : State) (r : Record) (lie : Lie) (cause : LieCause) {other : Seg} (hne : other ≠ r.seg) :
    (s.stopThrow r lie cause).toc.record other = s.toc.record other :=
  Toc.record_map_of_ne (fun q => { q with motor := .off, throwTimer := none, target := none, answer := none, lie := lie })
    (congrArg Toc.records (s.stopThrow_toc r lie cause)) (fun _ hq => hq) hne

/-- R171: a record with the target and answer part that its throw is to have. -/
abbrev Record.aimedAt (r : Record) (target : Points) (answer : Option Answer) : Record :=
  { r with target := some target, answer := answer }

/-- R171: from `s` to `v`, where the motor of `r` is to start towards a lie, at most the start queue, the stagger timer and the target and answer part of
`r` have changed. -/
structure Starting (s v : State) (r : Record) (target : Points) (answer : Option Answer) : Prop where
  opr : v.opr = s.opr
  station : v.mbu.station = s.mbu.station
  txq : v.txq = s.txq
  dpt : v.dpt = s.dpt
  inputs : v.toc.inputs = s.toc.inputs
  claiming : v.toc.claiming = s.toc.claiming
  record : v.toc.record r.seg = some (r.aimedAt target answer)
  others : ∀ other, other ≠ r.seg → v.toc.record other = s.toc.record other

namespace Starting

variable {s v : State} {r : Record} {target : Points} {answer : Option Answer}

theorem option (h : Starting s v r target answer) : v.option = s.option := State.option_congr h.opr

theorem lockHigh (h : Starting s v r target answer) (p : Points) :
    (v.motorStarted (r.aimedAt target answer) target).lockHigh r.seg p = s.lockHigh r.seg p := by
  rw [State.motorStarted_lockHigh, State.lockHigh_congr h.opr h.inputs]

theorem startMotor_of_low (h : Starting s v r target answer) (hlow : s.lockHigh r.seg target = false) :
    v.startMotor (r.aimedAt target answer) target =
      v.motorStarted (r.aimedAt target answer) target := by
  have hend := State.throwEnd_low (s := v.motorStarted (r.aimedAt target answer) target)
    (r := (r.aimedAt target answer)) rfl ((h.lockHigh target).trans hlow)
  rw [State.startMotor_eq, hend]

theorem startMotor_of_high (h : Starting s v r target answer) (hhigh : s.lockHigh r.seg target = true) :
    v.startMotor (r.aimedAt target answer) target =
      (v.motorStarted (r.aimedAt target answer) target).stopThrow
        (r.aimedAt target answer) (shownEnd target (s.lockHigh r.seg (pointsOther target))).1
        (shownEnd target (s.lockHigh r.seg (pointsOther target))).2 := by
  have hend := State.throwEnd_high (s := v.motorStarted (r.aimedAt target answer) target)
    (r := (r.aimedAt target answer)) rfl ((h.lockHigh target).trans hhigh)
  rw [State.startMotor_eq, hend, h.lockHigh]

theorem started_record (h : Starting s v r target answer) :
    (v.motorStarted (r.aimedAt target answer) target).toc.record r.seg = some { r with
      lie := .moving, target := some target, answer := answer, motor := motorFor target
      throwTimer := some (1000 * s.option (·.throwTime)) } := by
  rw [← h.option]
  exact State.motorStarted_record (r := r.aimedAt target answer) target h.record

theorem started_others (h : Starting s v r target answer) (other : Seg) (hne : other ≠ r.seg) :
    (v.motorStarted (r.aimedAt target answer) target).toc.record other = s.toc.record other :=
  (v.motorStarted_record_of_ne (r.aimedAt target answer) target hne).trans (h.others other hne)

theorem started_txq (h : Starting s v r target answer) :
    (v.motorStarted (r.aimedAt target answer) target).txq =
      (s.txRequest (.lie r.seg) (.lie .moving (answer.filter fun a => a.tag.isSome))).txq := by
  rw [State.motorStarted_txq]
  exact State.txRequest_txq_congr h.opr h.station h.txq _ _

/-- R171: with the target's lock low the motor runs. -/
theorem startMotor_low (h : Starting s v r target answer) (hlow : s.lockHigh r.seg target = false) {u : State}
    (hu : u = v.startMotor (r.aimedAt target answer) target) :
    u.toc.queue = v.toc.queue ∧ u.toc.stagger = some (100 * s.option (·.staggerCode)) ∧
      u.toc.record r.seg = some { r with
        lie := .moving, target := some target, answer := answer, motor := motorFor target
        throwTimer := some (1000 * s.option (·.throwTime)) } ∧
      (∀ other, other ≠ r.seg → u.toc.record other = s.toc.record other) ∧ u.toc.inputs = s.toc.inputs ∧
      u.toc.claiming = s.toc.claiming ∧ u.dpt = s.dpt.post (.throwing r.seg .moving .moving) ∧
      u.txq = (s.txRequest (.lie r.seg) (.lie .moving (answer.filter fun a => a.tag.isSome))).txq := by
  rw [h.startMotor_of_low hlow] at hu
  subst hu
  refine ⟨?_, ?_, h.started_record, h.started_others, ?_, ?_, ?_, h.started_txq⟩
  · rw [State.motorStarted_toc]
  · rw [State.motorStarted_toc, h.option]
  · rw [State.motorStarted_toc, ← h.inputs]
  · rw [State.motorStarted_toc, ← h.claiming]
  · rw [State.motorStarted_dpt, h.dpt]

/-- R172: with the target's lock high the throw ends in the event of its start. -/
theorem startMotor_high (h : Starting s v r target answer) (hhigh : s.lockHigh r.seg target = true) {u : State}
    (hu : u = v.startMotor (r.aimedAt target answer) target) :
    u.toc.queue = v.toc.queue ∧ EndsAtOnce s u r target answer := by
  rw [h.startMotor_of_high hhigh] at hu
  have hsent := lieRequest_shownEnd target (s.lockHigh r.seg (pointsOther target)) answer
  have htoc := State.stopThrow_toc (v.motorStarted (r.aimedAt target answer) target)
    (r.aimedAt target answer) (shownEnd target (s.lockHigh r.seg (pointsOther target))).1
    (shownEnd target (s.lockHigh r.seg (pointsOther target))).2
  subst hu
  refine ⟨by rw [htoc, State.motorStarted_toc], (shownEnd target (s.lockHigh r.seg (pointsOther target))).1,
    (lieRequest (shownEnd target (s.lockHigh r.seg (pointsOther target))).2 answer).1,
    (lieRequest (shownEnd target (s.lockHigh r.seg (pointsOther target))).2 answer).2, fun hother => ?_, fun hother => ?_,
    ?_, ?_, fun other hne => ?_, ?_, ?_, ?_, ?_⟩
  · rw [hsent, hother]
    exact ⟨rfl, rfl, rfl⟩
  · rw [hsent, hother]
    exact ⟨rfl, rfl, rfl⟩
  · rw [htoc, State.motorStarted_toc, h.option]
  · exact (State.stopThrow_record (r := r.aimedAt target answer) _ _ h.started_record :)
  · exact (State.stopThrow_record_of_ne _ (r.aimedAt target answer) _ _ hne).trans (h.started_others other hne)
  · rw [htoc, State.motorStarted_toc, ← h.inputs]
  · rw [htoc, State.motorStarted_toc, ← h.claiming]
  · rw [State.stopThrow_dpt, State.motorStarted_dpt, h.dpt]
  · rw [State.stopThrow_txq]
    exact State.txRequest_txq_congr (by simp [h.opr]) (by simp [State.motorStarted, h.station]) h.started_txq _ _

end Starting

/-! ## The start check (R171) -/

section
variable {s : State} {seg : Seg} {rest : List Seg} {r : Record} {target : Points}

theorem State.startChecks_occupied (hr : s.toc.record seg = some r) (ht : r.target = some target) (h : s.occupied seg = true) :
    s.startChecks (seg :: rest) = ((s.leaveQueue seg).requestLie seg .refusedOccupied r.answer).startChecks rest := by
  rw [State.startChecks, hr]
  simp only [ht, h, if_true]

theorem State.startChecks_held (hr : s.toc.record seg = some r) (ht : r.target = some target) (h : s.occupied seg = false)
    (hheld : s.startHeld r target = true) :
    s.startChecks (seg :: rest) = (s.setToc { s.toc with queue := s.toc.queue.filter (· != seg) }).startMotor r target := by
  rw [State.startChecks, hr]
  simp only [ht, h, hheld, if_true, Bool.false_eq_true, if_false]

theorem State.startChecks_unheld (hr : s.toc.record seg = some r) (ht : r.target = some target) (h : s.occupied seg = false)
    (hheld : s.startHeld r target = false) : s.startChecks (seg :: rest) = (s.leaveQueue seg).startChecks rest := by
  rw [State.startChecks, hr]
  simp only [ht, h, hheld, Bool.false_eq_true, if_false]

end

/-- R171: the oldest queued turnout out of the queue. -/
theorem filter_oldest {seg : Seg} {rest : List Seg} (h : seg ∉ rest) : (seg :: rest).filter (· != seg) = rest := by
  rw [List.filter_cons_of_neg (by simp), List.filter_eq_self]
  intro other hother
  exact bne_iff_ne.mpr fun heq => h (heq ▸ hother)

/-- R171: the state in which the start checks of the stagger's expiry are made. -/
def State.staggerEnded (s : State) : State := s.setToc { s.toc with stagger := none }

theorem exec_staggerExpiry {s : State} (hrun : s.inReset = false) (h : s.toc.stagger.isSome = true) :
    exec .staggerExpiry s = .next (s.staggerEnded.startChecks s.toc.queue) := by
  change execStaggerExpiry s = _
  rw [execStaggerExpiry, live_next _ s hrun, if_pos h]
  exact congrArg _ (State.pump_of_stopped s.staggerEnded rfl)

/-- Settles O46: the start check of the oldest queued turnout, with its motor start or its way out of the queue. -/
theorem staggerStartsTheOldest : Obligations.StaggerStartsTheOldest := by
  unfold Obligations.StaggerStartsTheOldest
  intro s hrun hstagger
  have hexec := exec_staggerExpiry hrun hstagger
  refine ⟨fun hempty => ?_, fun seg rest r target hqueue hnotMem hr ht => ?_⟩
  · rw [hexec, hempty]
    rfl
  · rw [hqueue] at hexec
    obtain rfl : r.seg = seg := Toc.record_seg hr
    have hfilter : s.staggerEnded.toc.queue.filter (· != r.seg) = rest := by
      rw [State.staggerEnded, State.setToc_toc, hqueue, filter_oldest hnotMem]
    have haimed : r.aimedAt target r.answer = r := by rw [Record.aimedAt, ← ht]
    have hstarting : Starting s (s.staggerEnded.setToc { s.staggerEnded.toc with queue := rest }) r target r.answer := by
      refine ⟨rfl, rfl, rfl, rfl, rfl, rfl, ?_, fun _ _ => rfl⟩
      rw [haimed]
      exact hr
    have hstart : s.occupied r.seg = false → s.startHeld r target = true →
        exec .staggerExpiry s = .next ((s.staggerEnded.setToc { s.staggerEnded.toc with queue := rest }).startMotor
          (r.aimedAt target r.answer) target) := by
      intro hfree hheld
      rw [hexec, State.startChecks_held (s := s.staggerEnded) hr ht hfree hheld, hfilter, haimed]
    refine ⟨fun hfree hheld hlow => ?_, fun hfree hheld hhigh => ?_, ?_⟩
    · obtain ⟨hq, htimer, hrecord, hothers, hinputs, -, hdpt, htxq⟩ := hstarting.startMotor_low hlow rfl
      refine ⟨_, hstart hfree hheld, hq, ?_, hothers, htimer, hinputs, hdpt, htxq⟩
      simpa only [ht] using hrecord
    · exact ⟨_, hstart hfree hheld, hstarting.startMotor_high hhigh rfl⟩
    · rintro u hu
      have hleft : s.staggerEnded.leaveQueue r.seg = u.staggerEnded := by
        rw [State.leaveQueue_eq, hfilter, hu]
        rfl
      have hrunU : u.inReset = false := by rw [hu]; exact hrun
      have hstaggerU : u.toc.stagger.isSome = true := by rw [hu]; exact hstagger
      have hqueueU : u.toc.queue = rest := by rw [hu, State.setToc_toc]
      refine ⟨fun hocc => ?_, fun hfree hheld => ?_⟩
      · rw [hexec, State.startChecks_occupied (s := s.staggerEnded) hr ht hocc, hleft, State.requestLie_eq,
          lieReq_tagless .refusedOccupied r.answer (by decide), exec_staggerExpiry (by simpa using hrunU) (by simpa using hstaggerU),
          State.staggerEnded, State.txRequest_setToc, State.staggerEnded]
        simp only [State.txRequest_frame, hqueueU]
      · rw [hexec, State.startChecks_unheld (s := s.staggerEnded) hr ht hfree hheld, hleft,
          exec_staggerExpiry hrunU hstaggerU, hqueueU]

end Sys2Proof.Machine
end

section
/-! Changes of the occupancy level (R173, R176). -/
namespace Sys2Proof.Machine

open Sys2Proof

/-- R176: the state with the filtered occupancy level of one position changed. -/
def State.occupancySet (s : State) (p : Position) (level : Bool) : State :=
  s.setInputs p { s.toc.inputs[p] with occupancy := .settledAt level }

section
variable {s : State} {p : Position} {r : Record}

theorem exec_occupancyChange (hrun : s.inReset = false) (hwatch : s.watching = true) (hr : s.toc.records[p.val]? = some r)
    {level : Bool} (h : s.toc.inputs[p].occupancy.level ≠ level) :
    exec (.occupancyChange p level) s = .next ((s.occupancySet p level).occupancyEvent r level) := by
  have hevent : ¬(!s.watching || s.toc.inputs[p].occupancy.level == level) = true := by
    rw [hwatch, beq_eq_false_iff_ne.mpr h]
    decide
  have hr1 : (s.occupancySet p level).recordAt p = some r := hr
  change execOccupancyChange p level s = _
  rw [execOccupancyChange, live_next _ s hrun, State.occupancyChange]
  simp only [hevent]
  rw [← State.occupancySet, hr1]
  rfl

theorem State.occupancyRise_moving (h : r.lie = .moving) : s.occupancyRise r = s.endThrow r .failed .occupiedDuringThrow :=
  if_pos h

theorem State.occupancyRise_queued (h : r.lie ≠ .moving) (hqueue : s.toc.queue.contains r.seg = true) :
    s.occupancyRise r = (s.leaveQueue r.seg).requestLie r.seg .refusedOccupied r.answer :=
  (if_neg h).trans (if_pos hqueue)

theorem State.occupancyRise_atRest (h : r.lie ≠ .moving) (hqueue : s.toc.queue.contains r.seg = false) :
    s.occupancyRise r = s := (if_neg h).trans (if_neg (by rw [hqueue]; decide))

/-- R176: a rise guards a FREE turnout while the station is in ANNOUNCE or ACTIVE. -/
theorem State.guards_rise {seg : Seg} {g : Bool} (hg : g = true ↔ s.online = true ∧ s.ctu[seg].claim = .free) :
    s.guards seg true = g := by
  rw [Bool.eq_iff_iff, hg]
  simp [State.guards, Entry.isFree]

/-- R176: a rise with its notice posted, beside a GUARD that has made `u` of the state. -/
def State.risePosted (s u : State) (p : Position) (seg : Seg) (g : Bool) : State :=
  (u.setToc (s.occupancySet p true).toc).post (.occupancy seg true g)

theorem State.occupancySet_guarded {g : Bool} (hg : s.guards r.seg true = g) :
    (s.occupancySet p true).guarded r true =
      s.risePosted (if g then s.txRequest .guard (.segs (segOne r.seg)) else s) p r.seg g := by
  have hset : (s.occupancySet p true).guards r.seg true = g := hg
  rw [State.guarded, hset]
  cases g
  · rfl
  · rw [if_pos rfl, if_pos rfl, State.txRequest_post, State.occupancySet, State.setInputs, State.txRequest_setToc]
    rfl

end

/-- Settles O47: the notice, the GUARD, and what a rise does to the record. -/
theorem occupancyChanges : Obligations.OccupancyChanges := by
  unfold Obligations.OccupancyChanges
  intro s p r hrun hwatch hr
  refine ⟨fun hhigh => ?_, fun g u hlow hg hu => ?_⟩
  · rw [exec_occupancyChange hrun hwatch hr (by rw [hhigh]; decide)]
    rfl
  · have hset := State.occupancySet_guarded (p := p) (State.guards_rise hg)
    rw [← hu] at hset
    have hexec := exec_occupancyChange hrun hwatch hr (level := true) (by rw [hlow]; decide)
    rw [State.occupancyEvent_eq, if_pos rfl, hset] at hexec
    have hframe : u.toc = s.toc ∧ u.dpt = s.dpt ∧ u.ctu = s.ctu := by
      rw [hu]
      cases g <;> simp
    obtain ⟨htoc, hdpt, hctu⟩ := hframe
    have hrise : (s.risePosted u p r.seg g).toc.queue = s.toc.queue := rfl
    refine ⟨fun hlie hqueue => ?_, fun hlie hqueue => ?_, fun hlie hfollow => ?_, ?_⟩
    · rw [← hrise] at hqueue
      rw [hexec, State.occupancyRise_atRest hlie hqueue, State.setInputs, htoc]
      rfl
    · rw [← hrise] at hqueue
      rw [State.occupancyRise_queued hlie hqueue, State.requestLie_eq, lieReq_tagless .refusedOccupied r.answer (by decide)] at hexec
      refine ⟨_, hexec, ?_, ?_, State.txRequest_txq_congr (by rfl) (by rfl) (by rfl) _ _⟩
      · simp only [State.txRequest_frame]
        rfl
      · simp only [State.txRequest_frame, ← hdpt]
        rfl
    · rw [State.occupancyRise_moving hlie, State.endThrow_of_none hfollow] at hexec
      refine ⟨_, hexec, ?_, ?_, ?_⟩
      · rw [State.stopThrow_toc]
        rfl
      · rw [State.stopThrow_dpt, lieReq_tagless .occupiedDuringThrow r.answer (by decide), ← hdpt]
        rfl
      · rw [State.stopThrow_txq, lieReq_tagless .occupiedDuringThrow r.answer (by decide)]
        exact State.txRequest_txq_congr (by rfl) (by rfl) (by rfl) _ _
    · rintro f v hlie hfollow rfl
      rw [State.occupancyRise_moving hlie] at hexec
      rw [hexec, ← hctu]
      obtain ⟨hwon, hdropped⟩ := State.endThrow_of_followOn (s := s.risePosted u p r.seg g) hfollow (lie := .failed)
        (lieReq_tagless .occupiedDuringThrow r.answer (by decide))
      exact ⟨fun hclaim => congrArg _ (hwon hclaim), fun hclaim => congrArg _ (hdropped hclaim)⟩

end Sys2Proof.Machine
end

section
/-! Won turnouts, THROW and the turnouts that join the start queue (R168 to R171). -/
namespace Sys2Proof.Machine

open Sys2Proof

theorem pointsLie_ne_moving (p : Points) : pointsLie p ≠ .moving := by cases p <;> decide

/-- R163: the lie of a turnout is that of its record. -/
theorem Toc.lieOf_of_record {c : Toc} {seg : Seg} {r : Record} (h : c.record seg = some r) : c.lieOf seg = r.lie := by
  simp only [Toc.lieOf, h]

/-! ## Joining the start queue (R171) -/

/-- R171: a turnout at the end of the start queue, aimed at a lie. -/
def State.queued (s : State) (seg : Seg) (p : Points) (answer : Option Answer) : State :=
  s.setToc { s.toc with
    queue := s.toc.queue ++ [seg]
    records := s.toc.records.map fun r => if r.seg = seg then r.aimedAt p answer else r }

section
variable {s : State} {seg : Seg} {p : Points} {a : Answer} {answer : Option Answer} {r : Record}

theorem State.joinQueue_eq : s.joinQueue seg p answer = (s.queued seg p answer).pump := rfl

theorem State.joinQueue_waits (h : s.toc.stagger.isSome = true) : s.joinQueue seg p answer = s.queued seg p answer :=
  State.pump_of_running (s.queued seg p answer) h

theorem State.queued_record (h : s.toc.record r.seg = some r) :
    (s.queued r.seg p answer).toc.record r.seg = some (r.aimedAt p answer) :=
  Toc.record_map_of_seg (fun q => q.aimedAt p answer) rfl (fun _ hq => hq) h

theorem State.queued_record_of_ne {other : Seg} (hne : other ≠ seg) :
    (s.queued seg p answer).toc.record other = s.toc.record other :=
  Toc.record_map_of_ne (fun q => q.aimedAt p answer) rfl (fun _ hq => hq) hne

/-- R171: the start check asks for a segment HELD by this station, or with the target's lie required that the turnout is not in. -/
theorem State.startHeld_iff :
    s.startHeld r p = true ↔ ∃ h required, s.ctu[r.seg].claim = .held h required ∧
      (h = s.me ∨ (required = some p ∧ r.lie ≠ pointsLie p)) := by
  unfold State.startHeld
  generalize s.ctu[r.seg].claim = c
  cases c <;> simp

/-! ## A turnout that joins an empty queue with the stagger timer not running (R171, R172) -/

/-- The one queued turnout, out of the queue for its motor start. -/
def State.onlyStarting (s : State) (seg : Seg) (p : Points) (answer : Option Answer) : State :=
  (s.queued seg p answer).setToc { (s.queued seg p answer).toc with queue := [] }

theorem Starting.onlyStarting (h : s.toc.record r.seg = some r) : Starting s (s.onlyStarting r.seg p answer) r p answer :=
  ⟨rfl, rfl, rfl, rfl, rfl, rfl, State.queued_record h, fun _ hne => State.queued_record_of_ne hne⟩

theorem State.joinQueue_first (hstagger : s.toc.stagger = none) (hqueue : s.toc.queue = []) :
    s.joinQueue seg p answer = (s.queued seg p answer).startChecks [seg] := by
  have hone : (s.queued seg p answer).toc.queue = [seg] := by rw [State.queued, State.setToc_toc, hqueue, List.nil_append]
  rw [State.joinQueue_eq, State.pump_of_stopped (s.queued seg p answer) hstagger, hone]

theorem State.queued_filter (hqueue : s.toc.queue = []) : (s.queued seg p answer).toc.queue.filter (· != seg) = [] := by
  rw [State.queued, State.setToc_toc, hqueue, List.nil_append, filter_oldest List.not_mem_nil]

theorem State.joinQueue_starts (hstagger : s.toc.stagger = none) (hqueue : s.toc.queue = []) (hr : s.toc.record r.seg = some r)
    (hfree : s.occupied r.seg = false) (hheld : s.startHeld r p = true) :
    s.joinQueue r.seg p answer = (s.onlyStarting r.seg p answer).startMotor (r.aimedAt p answer) p := by
  rw [State.joinQueue_first hstagger hqueue,
    State.startChecks_held (s := s.queued r.seg p answer) (State.queued_record hr) rfl hfree hheld, State.queued_filter hqueue,
    State.onlyStarting]

/-- A turnout that fails its start check is in the queue no more, with its target and answer part dropped. -/
theorem State.joinQueue_fails (hstagger : s.toc.stagger = none) (hqueue : s.toc.queue = []) (hr : s.toc.record r.seg = some r)
    (hfree : s.occupied r.seg = false) (hheld : s.startHeld r p = false) :
    s.joinQueue r.seg p answer = s.setToc { s.toc with
      records := s.toc.records.map fun q => if q.seg = r.seg then { q with target := none, answer := none } else q } := by
  have hrecords : ((fun q : Record => if q.seg = r.seg then { q with target := none, answer := none } else q) ∘ fun q =>
      if q.seg = r.seg then q.aimedAt p answer else q) =
      fun q => if q.seg = r.seg then { q with target := none, answer := none } else q := by
    funext q
    by_cases hq : q.seg = r.seg <;> simp [hq]
  rw [State.joinQueue_first hstagger hqueue,
    State.startChecks_unheld (s := s.queued r.seg p answer) (State.queued_record hr) rfl hfree hheld, State.startChecks,
    State.leaveQueue_eq, State.queued_filter hqueue, ← hqueue]
  simp only [State.queued, State.setToc_toc, State.setToc_setToc, List.map_map, hrecords]

/-! ## Won turnouts (R168, R169) -/

theorem State.wonTurnout_none : s.wonTurnout seg none a = s.requestLie seg .confirmed (some a) := rfl

theorem State.wonTurnout_locked (h : s.toc.lieOf seg = pointsLie p) :
    s.wonTurnout seg (some p) a = s.requestLie seg .confirmed (some a) := if_pos h

theorem State.wonTurnout_moving (h : s.toc.lieOf seg = .moving) :
    s.wonTurnout seg (some p) a = s.modifyRecord seg (Record.wonMoving p a) :=
  (if_neg (h ▸ (pointsLie_ne_moving p).symm)).trans (if_pos h)

theorem State.wonTurnout_occupied (hlie : s.toc.lieOf seg ≠ pointsLie p) (hmoving : s.toc.lieOf seg ≠ .moving)
    (h : s.occupied seg = true) : s.wonTurnout seg (some p) a = s.requestLie seg .refusedOccupied (some a) :=
  (if_neg hlie).trans ((if_neg hmoving).trans (if_pos h))

theorem State.wonTurnout_joins (hlie : s.toc.lieOf seg ≠ pointsLie p) (hmoving : s.toc.lieOf seg ≠ .moving)
    (h : s.occupied seg = false) : s.wonTurnout seg (some p) a = s.joinQueue seg p (some a) :=
  (if_neg hlie).trans ((if_neg hmoving).trans (if_neg (by rw [h]; decide)))

theorem State.requestLie_tagged (htag : a.tag.isSome = true) (cause : LieCause) :
    s.requestLie seg cause (some a) = s.txRequest (.lie seg) (.lie cause (some a)) := by
  rw [State.requestLie_eq, lieRequest_of_tag _ _ (Or.inl htag)]

/-! ## THROW (R170) -/

/-- R189: the lie byte of a THROW is read back. -/
theorem throwLieOf_byteOf (p : Points) : throwLieOf (byteOf (requiredCode (some p))) = some p := by cases p <;> rfl

/-- R170, R182: a THROW that no test stops. -/
theorem exec_throw (hrun : s.inReset = false) (hrole : s.role = some .wayside) (hactive : s.mbu.station = .active)
    (howned : s.owned.contains seg = true) (hholder : s.ctu[seg].holder = some s.me) (hfree : s.occupied seg = false)
    (haway : s.throwsAway seg p = false) :
    exec (.throw (segByte seg) (byteOf (requiredCode (some p)))) s =
      .next ((s.throwTo seg p).answer { status := .done, data := [] }) := by
  obtain ⟨hbyte, hseg, -⟩ := seg_ok seg
  have hpasses : s.throwRefusal seg p = none := by
    simp only [State.throwRefusal, firstFailing, State.isActive, hactive, howned, Entry.heldBy, hholder, hfree, haway]
    simp
  change execThrow _ _ s = _
  rw [execThrow, live_next _ s hrun, transact_ok _ _ s (by rw [hactive]; decide)
    (refusal_role s .wayside _ _ rfl (by rw [hbyte, throwLieOf_byteOf]; rfl) (by rw [hactive]; decide) hrole),
    throwLieOf_byteOf, hseg, State.throwAct, hpasses, judge_none]
  rfl

theorem State.throwTo_stands (h : s.toc.lieOf seg = pointsLie p ∨ s.toc.lieOf seg = .moving) : s.throwTo seg p = s := if_pos h

theorem State.throwTo_queued (hlie : s.toc.lieOf seg ≠ pointsLie p) (hmoving : s.toc.lieOf seg ≠ .moving)
    (hqueue : s.toc.queue.contains seg = true) : s.throwTo seg p = s.modifyRecord seg (Record.aim (some p) none) :=
  (if_neg (not_or.mpr ⟨hlie, hmoving⟩)).trans (if_pos hqueue)

theorem State.throwTo_joins (hlie : s.toc.lieOf seg ≠ pointsLie p) (hmoving : s.toc.lieOf seg ≠ .moving)
    (hqueue : s.toc.queue.contains seg = false) : s.throwTo seg p = s.joinQueue seg p none :=
  (if_neg (not_or.mpr ⟨hlie, hmoving⟩)).trans (if_neg (by rw [hqueue]; decide))

theorem State.throwsAway_of_lie (hr : s.toc.record seg = some r) (hmoving : r.lie ≠ .moving) : s.throwsAway seg p = false := by
  simp [State.throwsAway, hr, hmoving]

end

end Sys2Proof.Machine
end

section
/-! Won turnouts and returning turnouts from two states that the controller cannot tell apart (R168, R169, R171, R175, R178): both give the same records, queue and
timers, and the same LIE entries where these were alike. -/
namespace Sys2Proof.Machine

open Sys2Proof

/-! ## The LIE entries (R72, R74) -/

theorem Txq.find_create_self {q : Txq} {k : EntryKey} (args : Args) (h : q.find k = none) :
    (q.create k args).find k = some { key := k, args := args, age := q.nextAge, flight := none } := by
  have hnone : q.entries.find? (fun e => e.key == k) = none := h
  rw [Txq.find, Txq.create, List.find?_append, hnone]
  simp

/-- R72 to R74: what a request finds and makes of its own key. -/
theorem Txq.request_congr {q q' : Txq} {k : EntryKey} (args : Args) (hfind : q.find k = q'.find k) (hage : q.nextAge = q'.nextAge) :
    (q.request k args).find k = (q'.request k args).find k ∧ (q.request k args).nextAge = (q'.request k args).nextAge := by
  unfold Txq.request
  split
  · exact ⟨hfind, hage⟩
  · rw [hfind]
    split
    · next hnone =>
      rw [Txq.find_create_self args hnone, Txq.find_create_self args (hfind.trans hnone), hage]
      exact ⟨rfl, congrArg (· + 1) hage⟩
    · next e he =>
      have hkey : e.key = k := find_some_key he
      have hsome : (q.find k).isSome = true ∧ (q'.find k).isSome = true := by rw [hfind, he]; exact ⟨rfl, rfl⟩
      have hreplace : ∀ x : TxEntry, x.key = k → (q.replace k (some x)).find k = (q'.replace k (some x)).find k := fun x hx =>
        (q.find_replace_self k x hx hsome.1).trans (q'.find_replace_self k x hx hsome.2).symm
      split
      · exact ⟨hfind, hage⟩
      · split
        · exact ⟨hreplace _ hkey, hage⟩
        · unfold Txq.addPending
          rw [hkey]
          split
          · exact ⟨hfind, hage⟩
          · split
            · exact ⟨hreplace _ rfl, hage⟩
            · rw [hage]
              exact ⟨hreplace _ rfl, rfl⟩

/-- R72: two queues with the same LIE entries. -/
structure Txq.SameLies (q q' : Txq) : Prop where
  nextAge : q.nextAge = q'.nextAge
  find : ∀ seg, q.find (.lie seg) = q'.find (.lie seg)

theorem Txq.SameLies.refl (q : Txq) : q.SameLies q := ⟨rfl, fun _ => rfl⟩

theorem Txq.SameLies.request {q q' : Txq} (h : q.SameLies q') (seg : Seg) (args : Args) :
    (q.request (.lie seg) args).SameLies (q'.request (.lie seg) args) := by
  obtain ⟨hself, hage⟩ := Txq.request_congr args (h.find seg) h.nextAge
  refine ⟨hage, fun other => ?_⟩
  by_cases hother : EntryKey.lie seg = .lie other
  · rw [← hother, hself]
  · rw [Txq.find_request_of_ne _ _ _ _ hother, Txq.find_request_of_ne _ _ _ _ hother, h.find]

/-! ## Two states alike to the controller -/

/-- R163, R168: `u` and `t` are alike in all that the controller reads and makes, but for the outstanding possession claim (R129), of which `u` has `claiming`; and,
where `lies` holds, in the LIE entries too. -/
structure ActsAlike (claiming : Bool) (lies : Prop) (u t : State) : Prop where
  opr : u.opr = t.opr
  ctu : u.ctu = t.ctu
  online : u.online = t.online
  toc : u.toc = { t.toc with claiming := claiming }
  lies : lies → u.txq.SameLies t.txq

namespace ActsAlike

variable {c : Bool} {lies : Prop} {u t : State}

theorem refl (h : t.toc.claiming = c) : ActsAlike c lies t t := ⟨rfl, rfl, rfl, by rw [← h], fun _ => .refl _⟩

theorem record (h : ActsAlike c lies u t) (seg : Seg) : u.toc.record seg = t.toc.record seg := by
  rw [h.toc]
  rfl

theorem lieOf (h : ActsAlike c lies u t) (seg : Seg) : u.toc.lieOf seg = t.toc.lieOf seg := by
  rw [h.toc]
  rfl

theorem queue (h : ActsAlike c lies u t) : u.toc.queue = t.toc.queue := by rw [h.toc]

theorem occupied (h : ActsAlike c lies u t) (seg : Seg) : u.occupied seg = t.occupied seg :=
  State.occupied_congr h.opr (by rw [h.toc]) seg

theorem lockHigh (h : ActsAlike c lies u t) (seg : Seg) (p : Points) : u.lockHigh seg p = t.lockHigh seg p :=
  State.lockHigh_congr h.opr (by rw [h.toc]) seg p

theorem throwEnd (h : ActsAlike c lies u t) (r : Record) : u.throwEnd r = t.throwEnd r := by
  simp only [State.throwEnd, h.lockHigh]

theorem startHeld (h : ActsAlike c lies u t) (r : Record) (target : Points) : u.startHeld r target = t.startHeld r target := by
  simp only [State.startHeld, h.ctu, State.me_congr h.opr]

/-! ### What the operations make of both -/

/-- The controller changed alike, beside the outstanding claim. -/
theorem setToc (h : ActsAlike c lies u t) (f : Toc → Toc)
    (hf : ∀ x : Toc, f { x with claiming := c } = { f x with claiming := c }) :
    ActsAlike c lies (u.setToc (f u.toc)) (t.setToc (f t.toc)) := by
  refine ⟨h.opr, h.ctu, h.online, ?_, h.lies⟩
  rw [State.setToc_toc, State.setToc_toc, h.toc, hf]

theorem post (h : ActsAlike c lies u t) (n m : Notice) : ActsAlike c lies (u.post n) (t.post m) :=
  ⟨h.opr, h.ctu, h.online, h.toc, h.lies⟩

theorem txRequest (h : ActsAlike c lies u t) (seg : Seg) (args : Args) :
    ActsAlike c lies (u.txRequest (.lie seg) args) (t.txRequest (.lie seg) args) := by
  have haccepts : u.txAccepts (.lie seg) args = t.txAccepts (.lie seg) args := by
    simp only [State.txAccepts, h.online, State.owned, h.opr]
  unfold State.txRequest
  rw [haccepts]
  split
  · exact ⟨h.opr, h.ctu, h.online, h.toc, fun hl => (h.lies hl).request seg args⟩
  · exact h

theorem requestLie (h : ActsAlike c lies u t) (seg : Seg) (cause : LieCause) (answer : Option Answer) :
    ActsAlike c lies (u.requestLie seg cause answer) (t.requestLie seg cause answer) := h.txRequest seg _

theorem modifyRecord (h : ActsAlike c lies u t) (seg : Seg) (f : Record → Record) :
    ActsAlike c lies (u.modifyRecord seg f) (t.modifyRecord seg f) := h.setToc (fun x => x.modify seg f) fun _ => rfl

theorem leaveQueue (h : ActsAlike c lies u t) (seg : Seg) : ActsAlike c lies (u.leaveQueue seg) (t.leaveQueue seg) :=
  h.setToc (fun x => { x with
    queue := x.queue.filter (· != seg)
    records := x.records.map fun q => if q.seg = seg then { q with target := none, answer := none } else q }) fun _ => rfl

theorem stopThrow (h : ActsAlike c lies u t) (r : Record) (lie : Lie) (cause : LieCause) :
    ActsAlike c lies (u.stopThrow r lie cause) (t.stopThrow r lie cause) := by
  rw [stopThrow_eq, stopThrow_eq]
  exact ((h.modifyRecord r.seg _).post _ _).txRequest _ _

theorem motorStarted (h : ActsAlike c lies u t) (r : Record) (target : Points) :
    ActsAlike c lies (u.motorStarted r target) (t.motorStarted r target) := by
  have hoption : u.option = t.option := State.option_congr h.opr
  unfold State.motorStarted State.startedRecord
  rw [hoption]
  exact ((h.setToc (fun x => { x with
    records := x.records.map fun q => if q.seg = r.seg then
      { r with lie := .moving, motor := motorFor target, throwTimer := some (1000 * t.option (·.throwTime)) } else q
    stagger := some (100 * t.option (·.staggerCode)) }) fun _ => rfl).post _ _).txRequest _ _

theorem startMotor (h : ActsAlike c lies u t) (r : Record) (target : Points) :
    ActsAlike c lies (u.startMotor r target) (t.startMotor r target) := by
  have hstarted := h.motorStarted r target
  rw [State.startMotor_eq, State.startMotor_eq, hstarted.throwEnd r]
  split
  · exact hstarted.stopThrow r _ _
  · exact hstarted

theorem startChecks (h : ActsAlike c lies u t) (segs : List Seg) : ActsAlike c lies (u.startChecks segs) (t.startChecks segs) := by
  induction segs generalizing u t with
  | nil => exact h
  | cons seg rest ih =>
    unfold State.startChecks
    rw [h.record seg]
    split
    · next r _ =>
      split
      · next target _ =>
        rw [h.occupied seg, h.startHeld r target]
        split
        · exact ih ((h.leaveQueue seg).requestLie _ _ _)
        · split
          · exact (h.setToc (fun x => { x with queue := x.queue.filter (· != seg) }) fun _ => rfl).startMotor r target
          · exact ih (h.leaveQueue seg)
      · exact ih (h.leaveQueue seg)
    · exact ih (h.leaveQueue seg)

theorem pump (h : ActsAlike c lies u t) : ActsAlike c lies u.pump t.pump := by
  have hstagger : u.toc.stagger = t.toc.stagger := by rw [h.toc]
  unfold State.pump
  rw [hstagger, h.queue]
  split
  · exact h
  · exact h.startChecks _

theorem joinQueue (h : ActsAlike c lies u t) (seg : Seg) (target : Points) (answer : Option Answer) :
    ActsAlike c lies (u.joinQueue seg target answer) (t.joinQueue seg target answer) :=
  ((h.setToc (fun x => { x with
    queue := x.queue ++ [seg]
    records := x.records.map fun r => if r.seg = seg then r.aimedAt target answer else r }) fun _ => rfl).pump :)

theorem wonTurnout (h : ActsAlike c lies u t) (seg : Seg) (required : Option Points) (answer : Answer) :
    ActsAlike c lies (u.wonTurnout seg required answer) (t.wonTurnout seg required answer) := by
  unfold State.wonTurnout
  split
  · exact h.requestLie _ _ _
  · rw [h.lieOf seg, h.occupied seg]
    split
    · exact h.requestLie _ _ _
    · split
      · exact h.modifyRecord _ _
      · split
        · exact h.requestLie _ _ _
        · exact h.joinQueue _ _ _

theorem returnTurnout (h : ActsAlike c lies u t) (seg : Seg) : ActsAlike c lies (u.returnTurnout seg) (t.returnTurnout seg) := by
  unfold State.returnTurnout
  rw [h.ctu]
  split
  · have hreport := h.requestLie seg .report (some { claimant := ‹Station›, tag := none })
    dsimp only
    split
    · unfold State.returnThrow
      rw [hreport.lieOf seg, hreport.occupied seg, hreport.queue]
      split
      · exact hreport.modifyRecord _ _
      · split
        · exact hreport
        · exact hreport.joinQueue _ _ _
    · exact hreport
  · exact h
  · exact h

theorem foldl {β : Type} (f : State → β → State)
    (hf : ∀ (u t : State) (b : β), ActsAlike c lies u t → ActsAlike c lies (f u b) (f t b)) (l : List β)
    (h : ActsAlike c lies u t) : ActsAlike c lies (l.foldl f u) (l.foldl f t) := by
  induction l generalizing u t with
  | nil => exact h
  | cons b rest ih => exact ih (hf u t b h)

theorem answerWins (h : ActsAlike c lies u t) (r : Report) : ActsAlike c lies (u.answerWins r) (t.answerWins r) := by
  unfold State.answerWins
  rw [State.owned_congr h.opr]
  exact foldl (fun (v : State) (e : BundleEntry) => v.wonTurnout e.seg e.required { claimant := r.sender, tag := reportTag r })
    (fun _ _ e hut => hut.wonTurnout e.seg e.required _) _ h

theorem turnoutReturn (h : ActsAlike c lies u t) : ActsAlike c lies u.turnoutReturn t.turnoutReturn := by
  unfold State.turnoutReturn
  rw [State.owned_congr h.opr]
  exact foldl State.returnTurnout (fun _ _ seg hut => hut.returnTurnout seg) _ h

end ActsAlike

end Sys2Proof.Machine
end

section
/-! The turnout controller at a taken frame (R56, R129, R168, R174, R178): the report's won turnouts, the queued turnouts that stop being HELD, the REPORTs of the
own lapse, and the entry to ACTIVE. -/
namespace Sys2Proof.Machine

open Sys2Proof

/-! ## The changes of a report (R23) -/

theorem changesOf_any_iff (before after : Table) (seg : Seg) :
    ((changesOf before after).any fun c => c.seg == seg) = true ↔ before[seg].digestByte ≠ after[seg].digestByte := by
  have hmem : seg ∈ allSegs := List.mem_finRange seg
  simp only [changesOf, List.any_eq_true, List.mem_filterMap, beq_iff_eq]
  constructor
  · rintro ⟨change, ⟨i, -, hi⟩, hseg⟩
    split at hi
    · cases hi
    · next hne =>
      cases hi
      subst hseg
      exact hne
  · intro hne
    exact ⟨_, ⟨seg, hmem, if_neg hne⟩, rfl⟩

theorem Entry.digestByte_of_claim {e e' : Entry} (h : e.claim = e'.claim) : e.digestByte = e'.digestByte := by
  simp only [Entry.digestByte, h]

/-- R35: a beacon changes no claim. -/
theorem changesOf_beaconTable (map : Option TrackMap) (t : Table) (sender : Station) (lies : List LieEntry) :
    changesOf t (beaconTable map t sender lies) = [] := by
  refine List.filterMap_eq_nil_iff.mpr fun i _ => if_pos (Entry.digestByte_of_claim ?_)
  rw [beaconTable_get, beaconEntry_claim]

/-- R24, R25: a claim-type frame that wins changes only entries that its sender then holds. -/
theorem claimTable_changed_held {t : Table} {sender : Station} {reclaim : Bool} {bundle : List BundleEntry} {seg : Seg}
    (h : t[seg].digestByte ≠ (claimTable t sender reclaim bundle)[seg].digestByte) :
    (claimTable t sender reclaim bundle)[seg].isHeld = true := by
  by_cases hwins : claimWins t sender reclaim bundle = true
  · rw [claimTable_of_win t sender reclaim bundle hwins] at h ⊢
    rcases winTable_get_cases t sender bundle seg with hsame | ⟨-, hholder⟩
    · exact absurd (congrArg Entry.digestByte hsame).symm h
    · rw [Entry.isHeld, hholder]
      rfl
  · rw [claimTable_of_loss t sender reclaim bundle hwins] at h
    exact absurd rfl h

/-! ## The controller's acts on a report (R129, R168, R174) -/

section
variable {s : State} {r : Report} {told : Option ClaimTold}

theorem State.possessionOutcome_toc (s : State) (r : Report) (withdrawn : Bool) :
    (s.possessionOutcome r withdrawn).toc = { s.toc with claiming := false } := by
  unfold State.possessionOutcome
  dsimp only
  split
  · split <;> simp
  · split <;> simp
  · simp

/-- R129: the outcome of the possession claim changes nothing of the controller but that one is outstanding. -/
theorem State.possessionTold_toc (s : State) (r : Report) (told : Option ClaimTold) (c : Bool) :
    { (s.possessionTold r told).toc with claiming := c } = { s.toc with claiming := c } := by
  unfold State.possessionTold
  split
  · rw [State.possessionOutcome_toc]
  · rfl
  · rfl

/-- R129, R130: only a win of a withdrawn possession claim makes a request, a RELEASE. -/
theorem State.possessionTold_lie (s : State) (r : Report) (told : Option ClaimTold) (seg : Seg) :
    (s.possessionTold r told).txq.find (.lie seg) = s.txq.find (.lie seg) := by
  have hrelease : ∀ (u : State) (segs : List Seg), (u.requestRelease segs).txq.find (.lie seg) = u.txq.find (.lie seg) := by
    intro u segs
    rw [State.requestRelease, State.txRequest_txq]
    split
    · exact Txq.find_request_of_ne _ _ _ _ nofun
    · rfl
  unfold State.possessionTold State.possessionOutcome
  dsimp only
  split
  · split
    · split
      · rw [hrelease]
        rfl
      · rfl
    · split <;> rfl
    · rfl
  · rfl
  · rfl

theorem State.answerWins_of_not_win (h : r.outcome ≠ some .win) : s.answerWins r = s := by
  have hnone : wonTurnouts s.owned r = [] := by
    unfold wonTurnouts
    split
    · next hwin _ => exact absurd hwin h
    · next hwin _ => exact absurd hwin h
    · rfl
  rw [State.answerWins, hnone, List.foldl_nil]

/-- R174: turnouts that leave the queue one after another. -/
theorem State.foldl_leaveQueue_toc (segs : List Seg) (s : State) :
    (segs.foldl State.leaveQueue s).toc = { s.toc with
      queue := s.toc.queue.filter fun seg => !decide (seg ∈ segs)
      records := s.toc.records.map fun q => if q.seg ∈ segs then { q with target := none, answer := none } else q } := by
  induction segs generalizing s with
  | nil => simp
  | cons seg rest ih =>
    have hqueue : (s.leaveQueue seg).toc.queue.filter (fun other => !decide (other ∈ rest)) =
        s.toc.queue.filter fun other => !decide (other ∈ seg :: rest) := by
      rw [State.leaveQueue_eq, State.setToc_toc, List.filter_filter]
      refine List.filter_congr fun other _ => ?_
      by_cases hseg : other = seg <;> simp [hseg]
    have hrecords : ((fun q : Record => if q.seg ∈ rest then { q with target := none, answer := none } else q) ∘ fun q =>
        if q.seg = seg then { q with target := none, answer := none } else q) =
        fun q => if q.seg ∈ seg :: rest then { q with target := none, answer := none } else q := by
      funext q
      by_cases hseg : q.seg = seg <;> by_cases hrest : q.seg ∈ rest <;> simp [hseg, hrest]
    rw [List.foldl_cons, ih, hqueue, State.leaveQueue_eq, State.setToc_toc, List.map_map, hrecords]

/-- R174: a report that leaves every queued turnout as it was or HELD takes none out of the queue. -/
theorem State.dropQueued_none (h : ∀ seg, (r.changes.any fun c => c.seg == seg) = true → s.ctu[seg].isHeld = true) :
    s.dropQueued r = s := by
  have hnone : (s.toc.queue.filter fun seg => (r.changes.any fun c => c.seg == seg) && !s.ctu[seg].isHeld) = [] := by
    refine List.filter_eq_nil_iff.mpr fun seg _ hgone => ?_
    rw [Bool.and_eq_true, Bool.not_eq_true'] at hgone
    exact absurd (h seg hgone.1) (by rw [hgone.2]; decide)
  rw [State.dropQueued, hnone, List.foldl_nil]

/-- R168: of a report that takes no segment from its holder, and is no LAPSE of this station, the controller answers the won turnouts alone. -/
theorem State.turnoutReport_answers (hlapse : ∀ k, r.lapses k = false) (hrelease : ∀ segs, r.content ≠ .release segs)
    (hheld : ∀ seg, (r.changes.any fun c => c.seg == seg) = true → s.ctu[seg].isHeld = true) :
    s.turnoutReport r told = (s.possessionTold r told).answerWins r := by
  have hctu : ((s.possessionTold r told).answerWins r).ctu = s.ctu := by simp
  have hdrop : ((s.possessionTold r told).answerWins r).dropQueued r = (s.possessionTold r told).answerWins r := by
    refine State.dropQueued_none fun seg hseg => ?_
    rw [hctu]
    exact hheld seg hseg
  have hends : ∀ u : State, u.possessionEnds r = u := by
    intro u
    rw [State.possessionEnds, hlapse]
    refine (if_neg nofun).trans ?_
    split
    · next segs hcontent => exact absurd hcontent (hrelease segs)
    · rfl
  unfold State.turnoutReport
  simp only [hdrop, hends, hlapse, Bool.false_eq_true, if_false]

end

end Sys2Proof.Machine
end

section
/-! A taken frame at a wayside (R56, R168, R174, R178): what the controller makes of it, and what the rest of the verdict leaves of that. -/
namespace Sys2Proof.Machine

open Sys2Proof

/-! ## The frame's own entry (R57, R77) -/

theorem Txq.SameLies.symm {q q' : Txq} (h : q.SameLies q') : q'.SameLies q := ⟨h.nextAge.symm, fun seg => (h.find seg).symm⟩

/-- R77: the outcome TAKEN leaves the LIE entries where another kind is in flight. -/
theorem Txq.SameLies.outcome {q : Txq} (h : ∀ e, q.flying = some e → ∀ seg, e.key ≠ .lie seg) :
    (q.outcome .taken).1.SameLies q := by
  refine ⟨?_, fun seg => Txq.find_outcome_taken_of_ne q (.lie seg) fun e he => h e he seg⟩
  unfold Txq.outcome
  split
  · rfl
  · split <;> rfl

section
variable {s : State} {own : Bool} {r : Received} {p : Payload} {table : Table}

theorem State.sendTaken_beacon (h : ∀ e, s.txq.flying = some e → e.key = .beacon) :
    (s.sendTaken own).2 = none ∧ (s.sendTaken own).1.txq.SameLies s.txq := by
  unfold State.sendTaken
  split
  · refine ⟨?_, Txq.SameLies.outcome fun e he seg => by rw [h e he]; exact nofun⟩
    change (s.txq.outcome .taken).2 = none
    unfold Txq.outcome
    split
    · rfl
    · next e he =>
      split
      · rfl
      · exact if_neg (by rw [h e he]; decide)
  · exact ⟨rfl, .refl _⟩

/-- R77: an entry that is not in the queue is not in flight, so the outcome of the frame's own entry does not make it. -/
theorem State.sendTaken_find_none {key : EntryKey} (h : s.txq.find key = none) : (s.sendTaken own).1.txq.find key = none := by
  have hflying : ∀ e, s.txq.flying = some e → e.key ≠ key := by
    rintro e he rfl
    have hsome := Txq.find_isSome_of_flying he
    rw [h] at hsome
    cases hsome
  rw [sendTaken_txq]
  split
  · rw [Txq.find_outcome_taken_of_ne _ _ hflying, h]
  · exact h

/-! ## The report at a wayside (R56) -/

/-- R21, R22: the table after a frame that this station applies. -/
abbrev State.tableAfter (s : State) (r : Received) (p : Payload) : Table := applyPayload s.opr.map s.ctu (frameStation r.frame) p

/-- R23: the report of a frame that this station applies. -/
abbrev State.reportAfter (s : State) (r : Received) (p : Payload) : Report := reportOf s.opr.map s.ctu (frameStation r.frame) p

theorem State.tableTaken_wayside (hrole : s.role = some .wayside) (hc : r.content = some p) :
    s.tableTaken own r =
      ((s.sendTaken own).1.setCtu (s.tableAfter r p)).turnoutReport (s.reportAfter r p) (s.sendTaken own).2 := by
  have hopr : (s.sendTaken own).1.opr = s.opr := by simp
  have hctu : (s.sendTaken own).1.ctu = s.ctu := by simp
  have hrole' : ((s.sendTaken own).1.setCtu (s.tableAfter r p)).role = some .wayside := by
    rw [← hrole]
    simp [State.role]
  simp only [State.tableTaken, State.applyFrame, hc, hopr, hctu, State.handReport, hrole']

/-- R129: the state in which the report is acted on is to the controller that before the frame with the table after it. -/
theorem ActsAlike.reported (own : Bool) (table : Table) (report : Report) {lies : Prop}
    (hlies : lies → (s.sendTaken own).2 = none ∧ (s.sendTaken own).1.txq.SameLies s.txq) :
    ActsAlike s.toc.claiming lies (s.setCtu table)
      (((s.sendTaken own).1.setCtu table).possessionTold report (s.sendTaken own).2) := by
  refine ⟨by simp, by simp, by simp [State.online], ?_, fun h => ?_⟩
  · rw [State.possessionTold_toc]
    simp
  · obtain ⟨htold, hsame⟩ := hlies h
    rw [htold]
    exact hsame.symm

/-! ## Claim-type frames (R168) -/

/-- R168: a CLAIM or RECLAIM. -/
theorem State.tableTaken_claimType (hrole : s.role = some .wayside) (hc : r.content = some p) {tag : Tag}
    {bundle : List BundleEntry} (hp : p = .claim tag bundle ∨ p = .reclaim tag bundle) :
    s.tableTaken own r =
      (((s.sendTaken own).1.setCtu (s.tableAfter r p)).possessionTold (s.reportAfter r p) (s.sendTaken own).2).answerWins
        (s.reportAfter r p) := by
  rw [State.tableTaken_wayside hrole hc]
  rcases hp with rfl | rfl
  · exact State.turnoutReport_answers (fun _ => rfl) nofun fun seg hseg =>
      claimTable_changed_held ((changesOf_any_iff _ _ seg).mp hseg)
  · exact State.turnoutReport_answers (fun _ => rfl) nofun fun seg hseg =>
      claimTable_changed_held ((changesOf_any_iff _ _ seg).mp hseg)

/-- R168: the won turnouts of a bundle, in owned-list order. -/
theorem State.answerWins_of_win {report : Report} {tag : Tag} {bundle : List BundleEntry} (hwin : report.outcome = some .win)
    (hcontent : report.content = .claim tag bundle ∨ report.content = .reclaim tag bundle) (step : State → Seg → State)
    (hstep : ∀ (v : State) (seg : Seg),
      (∀ e, bundle.find? (fun e => e.seg == seg) = some e →
        step v seg = v.wonTurnout seg e.required { claimant := report.sender, tag := some tag }) ∧
      (bundle.find? (fun e => e.seg == seg) = none → step v seg = v)) :
    s.answerWins report = s.owned.foldl step s := by
  have hwon : wonTurnouts s.owned report = s.owned.filterMap fun seg => bundle.find? fun e => e.seg == seg := by
    unfold wonTurnouts
    rcases hcontent with hcontent | hcontent <;> rw [hwin, hcontent]
  have htag : reportTag report = some tag := by
    unfold reportTag
    rcases hcontent with hcontent | hcontent <;> rw [hcontent]
  rw [State.answerWins, hwon, List.foldl_filterMap, htag]
  refine List.foldl_ext _ _ _ fun v seg _ => ?_
  obtain ⟨hsome, hnone⟩ := hstep v seg
  cases hfind : bundle.find? fun e => e.seg == seg with
  | none => exact (hnone hfind).symm
  | some e =>
    have hseg : e.seg = seg := by simpa using List.find?_some hfind
    subst hseg
    exact (hsome e hfind).symm

/-! ## Other frames (R174) -/

theorem State.turnoutReport_toc {report : Report} {told : Option ClaimTold} (h : report.outcome ≠ some .win) :
    (s.turnoutReport report told).toc = ((s.possessionTold report told).dropQueued report).toc := by
  unfold State.turnoutReport
  rw [State.answerWins_of_not_win h]
  dsimp only
  split
  · rw [foldl_keeps State.toc State.reportLocked fun v seg => by simp]
    simp
  · simp

/-- R174: the queued turnouts that stop being HELD leave the queue. -/
theorem State.dropQueued_toc {report : Report} {gone : Seg → Bool}
    (hgone : ∀ seg, gone seg = true ↔
      seg ∈ s.toc.queue ∧ (report.changes.any fun c => c.seg == seg) = true ∧ s.ctu[seg].isHeld = false) :
    (s.dropQueued report).toc = { s.toc with
      queue := s.toc.queue.filter fun seg => !gone seg
      records := s.toc.records.map fun q => if gone q.seg then { q with target := none, answer := none } else q } := by
  have hmem : ∀ seg, seg ∈ s.toc.queue.filter (fun seg => (report.changes.any fun c => c.seg == seg) && !s.ctu[seg].isHeld) ↔
      gone seg = true := by
    intro seg
    rw [hgone, List.mem_filter, Bool.and_eq_true, Bool.not_eq_true']
  rw [State.dropQueued, State.foldl_leaveQueue_toc]
  simp only [hmem, Bool.decide_eq_true]

theorem reportOf_outcome_of_kind (map : Option TrackMap) (t : Table) (sender : Station) (hclaim : p.kind ≠ .claim)
    (hreclaim : p.kind ≠ .reclaim) : (reportOf map t sender p).outcome = none := by
  cases p with
  | claim tag bundle => exact absurd rfl hclaim
  | reclaim tag bundle => exact absurd rfl hreclaim
  | _ => rfl

/-- R174: what a frame that is no claim leaves of the queue and the records. -/
theorem State.tableTaken_other_toc (hrole : s.role = some .wayside) (hc : r.content = some p) (hclaim : p.kind ≠ .claim)
    (hreclaim : p.kind ≠ .reclaim) (htable : table = s.tableAfter r p) {gone : Seg → Bool}
    (hgone : ∀ seg, gone seg = true ↔
      seg ∈ s.toc.queue ∧ s.ctu[seg].digestByte ≠ table[seg].digestByte ∧ table[seg].isHeld = false) :
    { (s.tableTaken own r).toc with claiming := s.toc.claiming } = { s.toc with
      queue := s.toc.queue.filter fun seg => !gone seg
      records := s.toc.records.map fun q => if gone q.seg then { q with target := none, answer := none } else q } := by
  have hout := reportOf_outcome_of_kind s.opr.map s.ctu (frameStation r.frame) hclaim hreclaim
  have halike := ActsAlike.reported (s := s) (lies := False) own table (s.reportAfter r p) nofun
  rw [State.tableTaken_wayside hrole hc, State.turnoutReport_toc (by rw [hout]; exact nofun), ← htable]
  generalize ((s.sendTaken own).1.setCtu table).possessionTold (s.reportAfter r p) (s.sendTaken own).2 = v at halike
  have htoc := halike.toc
  rw [State.dropQueued_toc (gone := gone) fun seg => ?_]
  · rw [State.setCtu_toc] at htoc
    rw [htoc]
  · have hqueue : v.toc.queue = s.toc.queue := halike.queue.symm
    have hctu : v.ctu = table := halike.ctu.symm
    have hchanged : ((s.reportAfter r p).changes.any fun c => c.seg == seg) = true ↔
        s.ctu[seg].digestByte ≠ table[seg].digestByte := htable ▸ changesOf_any_iff s.ctu _ seg
    rw [hgone, hqueue, hctu, hchanged]

end

end Sys2Proof.Machine
end

section
/-! Own lapse, entry to ACTIVE, and the settlement of the won and thrown turnouts (R168 to R171, R174, R178). -/
namespace Sys2Proof.Machine

open Sys2Proof

/-! ## The own lapse (R174) -/

section
variable {s : State} {own : Bool} {r : Received} {p : Payload} {tally : StationSet}

theorem State.reportLocked_find_of_ne {seg other : Seg} (h : other ≠ seg) :
    (s.reportLocked other).txq.find (.lie seg) = s.txq.find (.lie seg) := by
  unfold State.reportLocked
  split
  · rw [State.requestLie_eq, State.txRequest_txq]
    split
    · exact Txq.find_request_of_ne _ _ _ _ (by simpa using h)
    · rfl
  · rfl

theorem State.foldl_reportLocked_find {seg : Seg} {segs : List Seg} (h : seg ∉ segs) (s : State) :
    (segs.foldl State.reportLocked s).txq.find (.lie seg) = s.txq.find (.lie seg) := by
  induction segs generalizing s with
  | nil => rfl
  | cons other rest ih =>
    rw [List.mem_cons, not_or] at h
    rw [List.foldl_cons, ih h.2, State.reportLocked_find_of_ne (Ne.symm h.1)]

/-- R174: the REPORT of a locked turnout that no LIE entry waits for. -/
theorem State.reportLocked_find_self {seg : Seg} (honline : s.online = true) (howned : s.owned.contains seg = true)
    (hlie : s.toc.lieOf seg = .normal ∨ s.toc.lieOf seg = .reverse) (hnone : s.txq.find (.lie seg) = none) :
    ((s.reportLocked seg).txq.find (.lie seg)).map (·.args) = some (.lie .report (s.holderAnswer seg)) := by
  have haccepts : ∀ args, s.txAccepts (.lie seg) args = true := fun args => by
    simp only [State.txAccepts, honline, howned, Bool.and_self]
  rw [State.reportLocked, if_pos hlie, State.requestLie_eq, State.txRequest_txq, if_pos (haccepts _), lieRequest_report]
  simp only [Txq.request, Args.isEmpty, hnone, Bool.false_eq_true, if_false, Txq.find_create_self _ hnone, Option.map_some]

/-- R174: every locked turnout is reported once, in owned-list order. -/
theorem State.foldl_reportLocked_args {seg : Seg} (honline : s.online = true) (howned : s.owned.contains seg = true)
    (hnodup : s.owned.Nodup) (hlie : s.toc.lieOf seg = .normal ∨ s.toc.lieOf seg = .reverse)
    (hnone : s.txq.find (.lie seg) = none) :
    ((s.owned.foldl State.reportLocked s).txq.find (.lie seg)).map (·.args) = some (.lie .report (s.holderAnswer seg)) := by
  obtain ⟨before, after, hsplit⟩ := List.append_of_mem (List.contains_iff_mem.mp howned)
  rw [hsplit, List.nodup_middle, List.nodup_cons, List.mem_append, not_or] at hnodup
  obtain ⟨⟨hbefore, hafter⟩, -⟩ := hnodup
  rw [hsplit, List.foldl_append, List.foldl_cons, State.foldl_reportLocked_find hafter]
  have hfind := (State.foldl_reportLocked_find hbefore s).trans hnone
  have hopr : (before.foldl State.reportLocked s).opr = s.opr := foldl_keeps State.opr _ (fun v seg => by simp) _ _
  have hctu : (before.foldl State.reportLocked s).ctu = s.ctu := foldl_keeps State.ctu _ (fun v seg => by simp) _ _
  have hmbu : (before.foldl State.reportLocked s).mbu = s.mbu := foldl_keeps State.mbu _ (fun v seg => by simp) _ _
  have htoc : (before.foldl State.reportLocked s).toc = s.toc := foldl_keeps State.toc _ (fun v seg => by simp) _ _
  rw [State.reportLocked_find_self (by rwa [State.online, hmbu]) (by rwa [State.owned, hopr]) (by rwa [htoc]) hfind,
    State.holderAnswer, hctu, State.holderAnswer]

theorem Toc.lieOf_map {c d : Toc} (f : Record → Record) (hd : d.records = c.records.map f)
    (hf : ∀ r, (f r).seg = r.seg ∧ (f r).lie = r.lie) (seg : Seg) : d.lieOf seg = c.lieOf seg := by
  unfold Toc.lieOf
  rw [Toc.record_map f hd fun r => (hf r).1]
  cases c.record seg with
  | none => rfl
  | some r => exact (hf r).2

/-- R174: leaving the queue changes no lie. -/
theorem State.dropQueued_lieOf (s : State) (report : Report) (seg : Seg) : (s.dropQueued report).toc.lieOf seg = s.toc.lieOf seg := by
  rw [State.dropQueued]
  refine Toc.lieOf_map _ (by rw [State.foldl_leaveQueue_toc]) (fun r => ?_) seg
  split <;> exact ⟨rfl, rfl⟩

theorem State.tableTaken_ownLapse (hrole : s.role = some .wayside) {set : StationSet} (hc : r.content = some (.lapse set))
    (hme : stationHas set s.me = true) (honline : s.online = true) {seg : Seg} (howned : s.owned.contains seg = true)
    (hnodup : s.owned.Nodup) (hlie : s.toc.lieOf seg = .normal ∨ s.toc.lieOf seg = .reverse)
    (hnone : s.txq.find (.lie seg) = none) :
    ((s.tableTaken own r).txq.find (.lie seg)).map (·.args) =
      some (.lie .report ((s.tableAfter r (.lapse set))[seg].holder.map fun k =>
        { claimant := k, tag := none })) := by
  have halike := ActsAlike.reported (s := s) (lies := False) own (s.tableAfter r (.lapse set)) (s.reportAfter r (.lapse set))
    nofun
  have hfind : (((s.sendTaken own).1.setCtu (s.tableAfter r (.lapse set))).possessionTold
      (s.reportAfter r (.lapse set)) (s.sendTaken own).2).txq.find (.lie seg) = none := by
    rw [State.possessionTold_lie]
    exact State.sendTaken_find_none hnone
  have hlapses : (s.reportAfter r (.lapse set)).lapses ((s.sendTaken own).1.setCtu (s.tableAfter r (.lapse set))).me = true := by
    have hsame : ((s.sendTaken own).1.setCtu (s.tableAfter r (.lapse set))).me = s.me := State.me_congr (by simp)
    rw [hsame]
    exact hme
  rw [State.tableTaken_wayside hrole hc]
  unfold State.turnoutReport
  rw [State.answerWins_of_not_win (r := s.reportAfter r (.lapse set)) nofun]
  dsimp only
  rw [if_pos hlapses]
  generalize ((s.sendTaken own).1.setCtu (s.tableAfter r (.lapse set))).possessionTold (s.reportAfter r (.lapse set))
    (s.sendTaken own).2 = v at halike hfind
  have hkept : ((v.dropQueued (s.reportAfter r (.lapse set))).possessionEnds (s.reportAfter r (.lapse set))).owned = s.owned :=
    State.owned_congr (by simp [← halike.opr])
  refine (State.foldl_reportLocked_args ?_ (by rwa [hkept]) (by rwa [hkept]) ?_ ?_).trans ?_
  · rw [← honline]
    simpa [State.online] using halike.online.symm
  · simp only [State.possessionEnds_frame, State.dropQueued_lieOf, ← halike.lieOf]
    simpa using hlie
  · simpa using hfind
  · simp [State.holderAnswer, ← halike.ctu]

/-! ## The rest of the verdict (R78, R93, R94, R178) -/

theorem State.endTaken_rest {content : Option Payload} (h : ¬(s.mbu.station = .announce ∧ ownAnnounce own content = true)) :
    (s.endTaken own content).toc = s.toc ∧ (s.endTaken own content).txq = s.txq := by
  unfold State.endTaken
  split
  · dsimp only
    rw [if_neg (by exact h)]
    simp
  · dsimp only
    rw [if_neg h]
    exact ⟨rfl, rfl⟩

theorem State.endTaken_announced {content : Option Payload} (hs : s.mbu.station = .announce)
    (hown : ownAnnounce own content = true) : s.endTaken own content = s.activate := by
  have hinactive : ¬s.isActive = true := by simp [State.isActive, hs]
  unfold State.endTaken
  rw [if_neg hinactive]
  exact if_pos ⟨hs, hown⟩

/-- R56: what the report made of the controller and of the LIE entries stands after a verdict with no entry to ACTIVE. -/
theorem State.takenOnline_rest (h : ¬(s.mbu.station = .announce ∧ ownAnnounce own r.content = true)) :
    (s.takenOnline own r tally).toc = (s.tableTaken own r).toc ∧
      ∀ seg, (s.takenOnline own r tally).txq.find (.lie seg) = (s.tableTaken own r).txq.find (.lie seg) := by
  rw [s.takenOnline_eq]
  obtain ⟨hstation, -⟩ := s.beforeEnd_mbu own r tally (withdrawnStations tally (frameStation r.frame) (r.heard s.roster))
    (r.heard s.roster)
  obtain ⟨htoc, htxq⟩ := State.endTaken_rest (own := own) (content := r.content) (hstation ▸ h)
  rw [htoc, htxq]
  refine ⟨by simp [State.withdrawStations], fun seg => ?_⟩
  rw [State.withdrawStations, State.setTxq_txq, Txq.find_withoutStations _ _ (.lie seg) nofun]
  simp

theorem State.activate_wayside (hrole : s.role = some .wayside) :
    s.activate = ((s.enter .active .announceTaken).startOwnLease).turnoutReturn := by
  have hrole' : ((s.enter .active .announceTaken).startOwnLease).role = some .wayside := hrole
  simp only [State.activate, State.tellActive, hrole']

theorem State.foldl_congr_of_inv {β : Type} (P : State → Prop) (f g : State → β → State) (hP : ∀ v b, P v → P (f v b))
    (heq : ∀ v b, P v → f v b = g v b) (l : List β) (v : State) (hv : P v) : l.foldl f v = l.foldl g v := by
  induction l generalizing v with
  | nil => rfl
  | cons b rest ih => rw [List.foldl_cons, List.foldl_cons, ← heq v b hv, ih _ (hP v b hv)]

/-- R178: a turnout at the return to ACTIVE, HELD with a required lie. -/
theorem State.returnTurnout_required {seg : Seg} {h : Station} {target : Points} (hclaim : s.ctu[seg].claim = .held h (some target)) :
    s.returnTurnout seg =
      (s.txRequest (.lie seg) (.lie .report (some { claimant := h, tag := none }))).returnThrow seg
        { claimant := h, tag := none } target := by
  unfold State.returnTurnout
  rw [hclaim]
  rfl

theorem State.returnTurnout_none {seg : Seg} {h : Station} (hclaim : s.ctu[seg].claim = .held h none) :
    s.returnTurnout seg = s.txRequest (.lie seg) (.lie .report (some { claimant := h, tag := none })) := by
  unfold State.returnTurnout
  rw [hclaim]
  rfl

theorem State.returnTurnout_unheld {seg : Seg} (hclaim : ∀ h required, s.ctu[seg].claim ≠ .held h required) :
    s.returnTurnout seg = s := by
  unfold State.returnTurnout
  split
  · next h required heq => exact absurd heq (hclaim h required)
  · rfl
  · rfl

/-- R178: the turnout is treated as won while MOVING, stays as it is, or joins the queue. -/
theorem State.returnThrow_eq {seg : Seg} {answer : Answer} {target : Points} :
    s.returnThrow seg answer target =
      if s.toc.lieOf seg = .moving then s.wonTurnout seg (some target) answer
      else if s.toc.lieOf seg = pointsLie target ∨ s.occupied seg = true ∨ s.toc.queue.contains seg = true then s
      else s.joinQueue seg target (some answer) := by
  unfold State.returnThrow
  by_cases hmoving : s.toc.lieOf seg = .moving
  · rw [if_pos hmoving, if_pos hmoving, State.wonTurnout_moving hmoving]
  · rw [if_neg hmoving, if_neg hmoving]
    refine if_congr ?_ rfl rfl
    simp [or_assoc]

end

end Sys2Proof.Machine
end

section
/-! Settlement of the won and thrown turnouts (R168 to R171, R174, R178). -/
namespace Sys2Proof.Machine

open Sys2Proof

/-- R171, R172: a turnout HELD as its start check asks that joins an empty queue starts at once, and its throw may end in that event. -/
theorem State.joinQueue_atOnce {s : State} {r : Record} {p : Points} (answer : Option Answer) (hstagger : s.toc.stagger = none)
    (hqueue : s.toc.queue = []) (hr : s.toc.record r.seg = some r) (hfree : s.occupied r.seg = false)
    (hheld : s.startHeld r p = true) :
    (s.lockHigh r.seg p = false → StartsAtOnce s (s.joinQueue r.seg p answer) r p answer) ∧
      (s.lockHigh r.seg p = true →
        (s.joinQueue r.seg p answer).toc.queue = [] ∧ EndsAtOnce s (s.joinQueue r.seg p answer) r p answer) := by
  have hjoin := State.joinQueue_starts (answer := answer) hstagger hqueue hr hfree hheld
  exact ⟨fun hlow => (Starting.onlyStarting hr).startMotor_low hlow hjoin, fun hhigh =>
    (Starting.onlyStarting hr).startMotor_high hhigh hjoin⟩

/-! ## A taken frame, kind by kind -/

theorem ownAnnounce_iff (own : Bool) (p : Payload) :
    ownAnnounce own (some p) = true ↔ own = true ∧ ∃ role held blocked lies, p = .beacon true role held blocked lies := by
  cases p with
  | beacon announce role held blocked lies => cases announce <;> simp [ownAnnounce]
  | _ => simp [ownAnnounce]

section
variable {s : State} {l : LineFrame} {r : Received} {p : Payload} {slots : StationSet}

theorem exec_taken_content (hat : AtTaken s l r slots) (honline : s.online = true) (hc : r.content = some p) :
    exec (takenInstr p.kind slots) s = .next ((s.seekIdle 0).takenOnline l.own.isSome r (slots &&& s.roster)) :=
  exec_taken_of_online s l r p.kind slots hat honline (by simp [Received.ofKind, Received.kind, hc])

/-- R62: where the line unit stands is nothing to the controller. -/
theorem ActsAlike.of_seekIdle {c : Bool} {alike : Prop} {table : Table} {t : State}
    (h : ActsAlike c alike ((s.seekIdle 0).setCtu table) t) : ActsAlike c alike (s.setCtu table) t :=
  ⟨h.opr, h.ctu, h.online, h.toc, h.lies⟩

/-- R168: the state before a CLAIM or RECLAIM, with the table after it, answers its won turnouts as the verdict does. -/
theorem ActsAlike.claimTaken (hrole : s.role = some .wayside) (hc : r.content = some p) {tag : Tag} {bundle : List BundleEntry}
    (hp : p = .claim tag bundle ∨ p = .reclaim tag bundle) :
    ActsAlike s.toc.claiming (l.own = none) ((s.setCtu (s.tableAfter r p)).answerWins (s.reportAfter r p))
      ((s.seekIdle 0).tableTaken l.own.isSome r) := by
  rw [State.tableTaken_claimType (s := s.seekIdle 0) hrole hc hp]
  have hreported := ActsAlike.reported (s := s.seekIdle 0) (lies := l.own = none) l.own.isSome (s.tableAfter r p)
    (s.reportAfter r p) fun hown => by rw [hown]; exact ⟨rfl, .refl _⟩
  exact hreported.of_seekIdle.answerWins (s.reportAfter r p)

/-- R168: the verdict on a claim-type frame leaves what the report made of the controller and of the LIE entries. -/
theorem ActsAlike.takenRest {u : State} {tally : StationSet}
    (h : ActsAlike s.toc.claiming (l.own = none) u ((s.seekIdle 0).tableTaken l.own.isSome r))
    (hrest : ¬(s.mbu.station = .announce ∧ ownAnnounce l.own.isSome r.content = true)) :
    { ((s.seekIdle 0).takenOnline l.own.isSome r tally).toc with claiming := s.toc.claiming } = u.toc ∧
      (l.own = none → ∀ seg, ((s.seekIdle 0).takenOnline l.own.isSome r tally).txq.find (.lie seg) = u.txq.find (.lie seg)) := by
  obtain ⟨htoc, hlies⟩ := State.takenOnline_rest (s := s.seekIdle 0) (tally := tally) hrest
  rw [htoc]
  exact ⟨h.toc.symm, fun hown seg => (hlies seg).trans ((h.lies hown).find seg).symm⟩

theorem claimType_of_outcome {map : Option TrackMap} {t : Table} {sender : Station} {o : ClaimOutcome}
    (h : (reportOf map t sender p).outcome = some o) : ∃ tag bundle, p = .claim tag bundle ∨ p = .reclaim tag bundle := by
  cases p with
  | claim tag bundle => exact ⟨tag, bundle, Or.inl rfl⟩
  | reclaim tag bundle => exact ⟨tag, bundle, Or.inr rfl⟩
  | _ => cases h

theorem ownAnnounce_claimType {own : Bool} {tag : Tag} {bundle : List BundleEntry}
    (hp : p = .claim tag bundle ∨ p = .reclaim tag bundle) : ownAnnounce own (some p) = false := by
  rcases hp with rfl | rfl <;> rfl

/-- R93, R178: the own announce is taken, and the controller returns to ACTIVE from a state alike to that before the frame with the table after it. -/
theorem State.takenOnline_return (hrole : s.role = some .wayside) (hs : s.mbu.station = .announce) {tally : StationSet}
    {role : Role} {held : List BundleEntry} {blocked : SegSet} {lies : List LieEntry} {own : Bool} (hown : own = true)
    (hc : r.content = some (.beacon true role held blocked lies)) (hflying : ∀ e, s.txq.flying = some e → e.key = .beacon) :
    ∃ v, s.takenOnline own r tally = v.turnoutReturn ∧ v.toc.claiming = s.toc.claiming ∧
      ActsAlike s.toc.claiming True (s.setCtu (s.tableAfter r (.beacon true role held blocked lies))) v := by
  obtain ⟨htold, hsame⟩ := State.sendTaken_beacon (own := own) hflying
  have htable : s.tableTaken own r = (s.sendTaken own).1.setCtu (s.tableAfter r (.beacon true role held blocked lies)) := by
    rw [State.tableTaken_wayside hrole hc, htold]
    rw [State.turnoutReport_answers (fun _ => rfl) (by exact nofun) fun seg hseg => ?_]
    · exact State.answerWins_of_not_win nofun
    · have hnone : (s.reportAfter r (.beacon true role held blocked lies)).changes = [] := changesOf_beaconTable _ _ _ _
      rw [hnone] at hseg
      cases hseg
  rw [s.takenOnline_eq]
  obtain ⟨hstation, -⟩ := s.beforeEnd_mbu own r tally (withdrawnStations tally (frameStation r.frame) (r.heard s.roster))
    (r.heard s.roster)
  rw [State.endTaken_announced (hstation.trans hs) (by rw [hc, hown]; rfl), State.activate_wayside ?_]
  · refine ⟨_, rfl, ?_, ?_⟩
    · simp [State.withdrawStations, State.enter, htable]
    · refine ⟨?_, ?_, ?_, ?_, fun _ => ⟨?_, fun seg => ?_⟩⟩
      · simp [State.withdrawStations, State.enter, htable]
      · simp [State.withdrawStations, State.enter, htable]
      · simp [State.online, hs, State.enter, State.startOwnLease]
      · simp [State.withdrawStations, State.enter, htable]
      · simpa [State.withdrawStations, State.enter, htable, Txq.withoutStations] using hsame.nextAge.symm
      · simp [State.withdrawStations, State.enter, htable, Txq.find_withoutStations, hsame.find]
  · rw [← hrole]
    exact State.role_congr (by simp [State.withdrawStations, htable])

end

/-- Settles O48: the won turnout and the THROW by their cases, the motor start of a turnout that joins an empty queue, and the taken frames by the controller's
acts on their reports. -/
theorem wonAndThrownTurnouts : Obligations.WonAndThrownTurnouts := by
  unfold Obligations.WonAndThrownTurnouts
  refine ⟨fun s seg p a => ⟨fun htag => ?_, fun hrun hrole hactive howned hholder hfree haway => ?_⟩,
    fun s r p hstagger hqueue hr hlie hmoving hfree => ?_, ?_⟩
  · refine ⟨?_, fun hlie => ?_, fun hmoving => ?_, fun hlie hmoving hocc => ?_, fun hlie hmoving hfree hstagger => ?_⟩
    · rw [State.wonTurnout_none, State.requestLie_tagged htag]
    · rw [State.wonTurnout_locked hlie, State.requestLie_tagged htag]
    · rw [State.wonTurnout_moving hmoving]
      rfl
    · rw [State.wonTurnout_occupied hlie hmoving hocc, State.requestLie_tagged htag]
    · rw [State.wonTurnout_joins hlie hmoving hfree, State.joinQueue_waits hstagger]
      rfl
  · have hthrow := exec_throw hrun hrole hactive howned hholder hfree haway
    refine ⟨fun hlie => ?_, fun hmoving => ?_, fun hlie hmoving hqueue => ?_, fun hlie hmoving hqueue hstagger => ?_⟩
    · rw [hthrow, State.throwTo_stands (Or.inl hlie)]
    · rw [hthrow, State.throwTo_stands (Or.inr hmoving)]
    · rw [hthrow, State.throwTo_queued hlie hmoving hqueue]
      rfl
    · rw [hthrow, State.throwTo_joins hlie hmoving hqueue, State.joinQueue_waits hstagger]
      rfl
  · rw [← Toc.lieOf_of_record hr] at hlie hmoving
    have hwon : ∀ a : Answer, s.wonTurnout r.seg (some p) a = s.joinQueue r.seg p (some a) := fun a =>
      State.wonTurnout_joins hlie hmoving hfree
    have hthrow := fun hrun hrole hactive howned hholder => exec_throw hrun hrole hactive howned hholder hfree
      (State.throwsAway_of_lie (p := p) hr (Toc.lieOf_of_record hr ▸ hmoving))
    rw [State.throwTo_joins hlie hmoving (by rw [hqueue]; rfl)] at hthrow
    rw [Toc.lieOf_of_record hr] at hlie
    have heldWon : ∀ (h : Station) (required : Option Points), s.ctu[r.seg].claim = .held h required →
        h = s.me ∨ required = some p → s.startHeld r p = true := fun h required hclaim hfits =>
      State.startHeld_iff.mpr ⟨h, required, hclaim, hfits.imp_right fun hrequired => ⟨hrequired, hlie⟩⟩
    have heldOwn : s.ctu[r.seg].holder = some s.me → s.startHeld r p = true := fun hholder =>
      ((Entry.holder_eq_some_iff _ _).mp hholder).elim fun required hclaim => heldWon _ required hclaim (Or.inl rfl)
    refine ⟨fun hlow => ⟨fun a h required hclaim hfits => ?_, fun hrun hrole hactive howned hholder => ?_⟩,
      fun hhigh => ⟨fun a h required hclaim hfits => ?_, fun hrun hrole hactive howned hholder => ?_⟩, fun a hother => ?_⟩
    · rw [hwon]
      exact (State.joinQueue_atOnce _ hstagger hqueue hr hfree (heldWon h required hclaim hfits)).1 hlow
    · exact ⟨_, hthrow hrun hrole hactive howned hholder,
        (State.joinQueue_atOnce _ hstagger hqueue hr hfree (heldOwn hholder)).1 hlow⟩
    · rw [hwon]
      exact (State.joinQueue_atOnce _ hstagger hqueue hr hfree (heldWon h required hclaim hfits)).2 hhigh
    · exact ⟨_, hthrow hrun hrole hactive howned hholder,
        (State.joinQueue_atOnce _ hstagger hqueue hr hfree (heldOwn hholder)).2 hhigh⟩
    · have hfails : s.startHeld r p = false := by
        refine Bool.eq_false_iff.mpr fun hheld => ?_
        obtain ⟨h, required, hclaim, hfits⟩ := State.startHeld_iff.mp hheld
        obtain ⟨hnotMe, hnotP⟩ := hother h required hclaim
        exact hfits.elim hnotMe fun ⟨hrequired, _⟩ => hnotP hrequired
      rw [hwon, State.joinQueue_fails hstagger hqueue hr hfree hfails]
  · rintro s l r p slots table hat honline hrole hc rfl
    have hexec := exec_taken_content hat honline hc
    refine ⟨fun tag bundle u hp hwin hu => ?_, fun cause hloss => ?_, fun hclaim hreclaim hnot gone hgone => ?_,
      fun role held blocked lies hs hown hp hflying u hu => ?_⟩
    · have halike := ActsAlike.claimTaken (l := l) hrole hc hp
      have hfold : (s.setCtu (s.tableAfter r p)).answerWins (s.reportAfter r p) = u := by
        rw [hu]
        refine State.answerWins_of_win (report := s.reportAfter r p) hwin hp _ fun v seg => ⟨fun e he => ?_, fun hnone => ?_⟩
        · simp only [he]
          rfl
        · simp only [hnone]
      rw [hfold] at halike
      exact ⟨_, hexec, halike.takenRest fun h => by rw [hc, ownAnnounce_claimType hp] at h; cases h.2⟩
    · obtain ⟨tag, bundle, hp⟩ := claimType_of_outcome hloss
      have halike := ActsAlike.claimTaken (l := l) hrole hc hp
      rw [State.answerWins_of_not_win (by rw [hloss]; exact nofun)] at halike
      exact ⟨_, hexec, halike.takenRest fun h => by rw [hc, ownAnnounce_claimType hp] at h; cases h.2⟩
    · have hrest : ¬(s.mbu.station = .announce ∧ ownAnnounce l.own.isSome r.content = true) := by
        rw [hc, ownAnnounce_iff]
        exact fun ⟨hs, hown, hp⟩ => hnot ⟨hs, hown, hp⟩
      obtain ⟨htoc, hlies⟩ := State.takenOnline_rest (s := s.seekIdle 0) (tally := slots &&& s.roster) hrest
      refine ⟨_, hexec, ?_, ?_⟩
      · rw [htoc]
        exact State.tableTaken_other_toc (s := s.seekIdle 0) hrole hc hclaim hreclaim rfl hgone
      · rintro set seg rfl hme howned hnodup hlie hnone
        rw [hlies]
        exact State.tableTaken_ownLapse (s := s.seekIdle 0) hrole hc hme honline howned hnodup hlie hnone
    · subst hp
      obtain ⟨v, hv, hclaiming, halike⟩ := State.takenOnline_return (s := s.seekIdle 0) (tally := slots &&& s.roster) hrole hs
        hown hc hflying
      have hreturn : (s.setCtu (s.tableAfter r (.beacon true role held blocked lies))).turnoutReturn = u := by
        rw [hu]
        refine State.foldl_congr_of_inv (fun w => w.ctu = s.tableAfter r (.beacon true role held blocked lies)) _ _
          (fun w seg hw => by simpa using hw) (fun w seg hw => ?_) _ _ rfl
        rw [State.tableAfter] at hw
        rw [← hw]
        split
        · next h required hclaim =>
          cases required with
          | none => exact State.returnTurnout_none hclaim
          | some target => exact (State.returnTurnout_required hclaim).trans State.returnThrow_eq
        · next hunheld => exact State.returnTurnout_unheld fun h required hclaim => hunheld h required hclaim
      have hself := (ActsAlike.refl (lies := True) hclaiming).turnoutReturn
      have halike := halike.of_seekIdle.turnoutReturn
      refine ⟨_, hexec, ?_, ?_, fun seg => ?_⟩
      · refine (State.takenOnline_of_ownAnnounce (s.seekIdle 0) _ r _ hs ?_).1
        rw [hc]
        exact (ownAnnounce_iff _ _).mpr ⟨hown, _, _, _, _, rfl⟩
      · rw [hv, ← hreturn]
        exact hself.toc.trans halike.toc.symm
      · rw [hv, ← hreturn]
        exact ((halike.lies trivial).find seg).symm

end Sys2Proof.Machine
end
